-- ==== Sys2Proof/Word.lean ====
section
/-! DEFINITION. The value types of the SSFV (00_scope R6): bytes, nibbles, the 16-bit fields of a GenericService payload, and the
10-bit words of the ports. -/

namespace Sys2Proof

/-- An unsigned 8-bit value, `u8` (R6). -/
abbrev Byte := BitVec 8

/-- An unsigned 4-bit value (R6). -/
abbrev Nibble := BitVec 4

/-- An unsigned 16-bit value, `u16` (R6, R44). -/
abbrev Half := BitVec 16

/-- A 10-bit word of DF_IN, ENC_IN or CRC_IN (R70 to R72). -/
abbrev PortBits := BitVec 10

end Sys2Proof
end

