-- ==== Sys2Proof/Config.lean ====
section
/-! DEFINITION. The hardwired constants of the SSFV (10_state R33, 00_scope section 3) and the parameters that the spec leaves open
(00_scope R4, R5; D9, D13). An open parameter is made from an `opaque` seed, so that every legal value is possible, none is known,
and the spec's constraint on it holds by construction. -/

namespace Sys2Proof.Config

/-- FRAME_DELIMITER (R33, R60). -/
abbrev frameDelimiter : Byte := 0x7E

/-- ESCAPE (R33, R60). -/
abbrev escape : Byte := 0x7D

/-- ESCAPE_XOR_MASK (R33, R61). -/
abbrev escapeXorMask : Byte := 0x20

/-- MIN_FRAME_LEN (R33, R171). -/
abbrev minFrameLen : Nat := 8

/-- The header's length: the payload begins at this offset (R64, R176). -/
abbrev headerLen : Nat := 7

/-- LC_MIN_PAYLOAD (R33, R201). -/
abbrev lcMinPayload : Nat := 2

/-- GS_MIN_PAYLOAD (R33, R206). -/
abbrev gsMinPayload : Nat := 9

/-- The seed of BUF_CAP: nothing is known of it (log 12). -/
opaque bufCapExtra : Option Nat

/-- BUF_CAP: `none` is "unbounded", `some n` a capacity of `n` bytes, at least 8 (R4). -/
def bufCap : Option Nat := bufCapExtra.map (fun extra => minFrameLen + extra)

/-- A byte other than `a`: the seed where it is one. -/
def otherThan (a seed : Byte) : Byte := if seed = a then a + 1 else seed

/-- A byte other than `a` and `b`: the seed where it is one. -/
def otherThanBoth (a b seed : Byte) : Byte :=
  if seed = a ∨ seed = b then (if a + 1 = b then a + 2 else a + 1) else seed

/-- The seed of LC_STATUS_CODE: nothing is known of it (log 13). -/
opaque lcStatusSeed : Byte

/-- The seed of LC_BAUDRATE_CODE (log 13). -/
opaque lcBaudRateSeed : Byte

/-- The seed of GS_READ_CODE (log 13). -/
opaque gsReadSeed : Byte

/-- The seed of GS_WRITE_CODE (log 13). -/
opaque gsWriteSeed : Byte

/-- The seed of GS_WRITEREAD_CODE (log 13). -/
opaque gsWriteReadSeed : Byte

/-- LC_PROFILES_CODE, recovered from the source's example (R5, R204). -/
abbrev lcProfilesCode : Byte := 0x02

/-- LC_STATUS_CODE: open, not 0x02 (R5). -/
def lcStatusCode : Byte := otherThan lcProfilesCode lcStatusSeed

/-- LC_BAUDRATE_CODE: open, neither 0x02 nor LC_STATUS_CODE (R5). -/
def lcBaudRateCode : Byte := otherThanBoth lcProfilesCode lcStatusCode lcBaudRateSeed

/-- GS_READ_CODE: open (R5). -/
def gsReadCode : Byte := gsReadSeed

/-- GS_WRITE_CODE: open, not GS_READ_CODE (R5). -/
def gsWriteCode : Byte := otherThan gsReadCode gsWriteSeed

/-- GS_WRITEREAD_CODE: open, neither GS_READ_CODE nor GS_WRITE_CODE (R5). -/
def gsWriteReadCode : Byte := otherThanBoth gsReadCode gsWriteCode gsWriteReadSeed

end Sys2Proof.Config
end

