-- ==== Sys2Proof/Syntax.lean ====
section
/-! DEFINITION. The operations of the SSFV, one constructor per row of the opcode table (00_scope R10), and what the host can offer
the block: port words (30_encoding R70 to R73), SRC_FAIL (60_exceptions R231) and RESET (70_reset R250). -/

namespace Sys2Proof

/-- An operation (R10). Bits that a row ignores (R79 item 6) are no operand. -/
inductive Instr where
  | crcIdle
  | crcInit
  | crcByte (b : Byte)
  | crcNib (n : Nibble)
  | encIdle
  | encDelim
  | encData (b : Byte)
  | dfIdle
  | dfDelim
  | dfEsc
  /-- `b` is a LIT-class byte (R60, R145): see `Instr.wf`. -/
  | dfLit (b : Byte)
  | dfEos
  /-- `f`: the frame bytes, of any length (R170). -/
  | fvParse (f : List Byte)
  /-- `p`: the payload region (R200). -/
  | pdLc (p : List Byte)
  | pdRd (p : List Byte)
  | pdGs (p : List Byte)
deriving DecidableEq, Repr

/-- A word on one of the input ports. -/
inductive PortWord where
  /-- CRC_IN (R72). -/
  | crcIn (w : PortBits)
  /-- ENC_IN (R71). -/
  | encIn (w : PortBits)
  /-- DF_IN (R70). -/
  | dfIn (w : PortBits)
  /-- FV_IN: the strobe and the frame (R73). -/
  | fvIn (req : Bool) (frame : List Byte)
deriving DecidableEq, Repr

/-- Where an operation stands in the opcode table: at a port word, or, in the PROFILE rows, at the profile byte on which FV dispatches
the payload `p` (R66, R177). The PROFILE rows are on no port: PD operations "are not driven from a port" (R10). -/
inductive InstrWord where
  | port (w : PortWord)
  | profile (key : Byte) (p : List Byte)
deriving DecidableEq, Repr

/-- One thing the host does at a step (R238). -/
inductive HostInput where
  | word (w : PortWord)
  /-- SRC_FAIL is asserted (R231). -/
  | srcFail
  /-- RESET is asserted (R250). -/
  | reset
deriving DecidableEq, Repr

end Sys2Proof
end

