-- ==== Sys2Proof/WellFormed.lean ====
section
/-! DEFINITION. Which terms of `Instr` are operations of the hardware: all but a DF.LIT of a byte that is DELIM or ESC
(30_encoding R60, R70; 42_deframer R145). Every other operand may hold every value. -/

namespace Sys2Proof

/-- Is the term an operation the spec defines? -/
def Instr.wf : Instr → Bool
  | .crcIdle => true
  | .crcInit => true
  | .crcByte _ => true
  | .crcNib _ => true
  | .encIdle => true
  | .encDelim => true
  | .encData _ => true
  | .dfIdle => true
  | .dfDelim => true
  | .dfEsc => true
  | .dfLit b => b != Config.frameDelimiter && b != Config.escape
  | .dfEos => true
  | .fvParse _ => true
  | .pdLc _ => true
  | .pdRd _ => true
  | .pdGs _ => true

end Sys2Proof
end

