-- ==== Sys2Proof/Decode.lean ====
section
/-! DEFINITION. From port words and dispatch keys to operations and back. The rows of a port are tested in the order of the opcode table and the
first that matches wins (30_encoding R78); a word that no row matches is reserved (R79 item 2). -/

namespace Sys2Proof

/-- Why an offered word is no operation. -/
inductive DecodeError where
  /-- A reserved port word: DF_IN with eos = valid = 1, or ENC_IN with cmd = 11 (R79). -/
  | reservedWord
  /-- FV_IN with req = 0: "no operation" (R73). -/
  | noRequest
deriving DecidableEq, Repr

/-- A row of the opcode table for a 10-bit port: it matches `w` when `w AND mask = pat`, and then builds its operation. -/
structure PortRow where
  mask : PortBits
  pat : PortBits
  op : PortBits → Instr

/-- The byte field [7:0] of a port word. -/
def byteField (w : PortBits) : Byte := w.extractLsb' 0 8

/-- The nibble field [3:0] of a port word. -/
def nibbleField (w : PortBits) : Nibble := w.extractLsb' 0 4

/-- CRC_IN (R72). -/
def crcInRows : List PortRow :=
  [⟨0x300, 0x000, fun _ => .crcIdle⟩,
   ⟨0x300, 0x100, fun _ => .crcInit⟩,
   ⟨0x300, 0x200, fun w => .crcByte (byteField w)⟩,
   ⟨0x300, 0x300, fun w => .crcNib (nibbleField w)⟩]

/-- ENC_IN (R71). -/
def encInRows : List PortRow :=
  [⟨0x300, 0x000, fun _ => .encIdle⟩,
   ⟨0x300, 0x100, fun _ => .encDelim⟩,
   ⟨0x300, 0x200, fun w => .encData (byteField w)⟩]

/-- DF_IN (R70): DF.DELIM and DF.ESC stand before DF.LIT (R78). -/
def dfInRows : List PortRow :=
  [⟨0x300, 0x000, fun _ => .dfIdle⟩,
   ⟨0x3FF, 0x17E, fun _ => .dfDelim⟩,
   ⟨0x3FF, 0x17D, fun _ => .dfEsc⟩,
   ⟨0x300, 0x100, fun w => .dfLit (byteField w)⟩,
   ⟨0x300, 0x200, fun _ => .dfEos⟩]

/-- The operation of the first row that matches (R78). -/
def firstRow : List PortRow → PortBits → Except DecodeError Instr
  | [], _ => .error .reservedWord
  | r :: rs, w => if w &&& r.mask = r.pat then .ok (r.op w) else firstRow rs w

/-- The payload decoders (44_payload_decode R200). -/
inductive PayloadDecoder where
  | lc | rd | gs
deriving DecidableEq, Repr

/-- The PROFILE rows: FV's look-up by the profile byte (R66, R177). `none`: the profile is unsupported. -/
def decoderOf (profile : Byte) : Option PayloadDecoder :=
  if profile = 0x01 then some .lc
  else if profile = 0x02 then some .rd
  else if profile = 0x03 then some .gs
  else none

/-- The operation that runs a decoder on a payload. -/
def PayloadDecoder.operation (d : PayloadDecoder) (p : List Byte) : Instr :=
  match d with
  | .lc => .pdLc p
  | .rd => .pdRd p
  | .gs => .pdGs p

/-- The decoder: total on every word of every port (R78). -/
def decode : PortWord → Except DecodeError Instr
  | .crcIn w => firstRow crcInRows w
  | .encIn w => firstRow encInRows w
  | .dfIn w => firstRow dfInRows w
  | .fvIn req f => if req then .ok (.fvParse f) else .error .noRequest

/-- The operation at a place of the opcode table: a port word is decoded, a profile byte looked up. -/
def decodeWord : InstrWord → Option Instr
  | .port w =>
    match decode w with
    | .ok i => some i
    | .error _ => none
  | .profile key p => (decoderOf key).map (fun d => d.operation p)

/-- The word of an operation: the row's `match` with the operand in its field (R81), ignored bits 0. -/
def encode : Instr → InstrWord
  | .crcIdle => .port (.crcIn 0x000)
  | .crcInit => .port (.crcIn 0x100)
  | .crcByte b => .port (.crcIn (0x200 ||| b.setWidth 10))
  | .crcNib n => .port (.crcIn (0x300 ||| n.setWidth 10))
  | .encIdle => .port (.encIn 0x000)
  | .encDelim => .port (.encIn 0x100)
  | .encData b => .port (.encIn (0x200 ||| b.setWidth 10))
  | .dfIdle => .port (.dfIn 0x000)
  | .dfDelim => .port (.dfIn 0x17E)
  | .dfEsc => .port (.dfIn 0x17D)
  | .dfLit b => .port (.dfIn (0x100 ||| b.setWidth 10))
  | .dfEos => .port (.dfIn 0x200)
  | .fvParse f => .port (.fvIn true f)
  | .pdLc p => .profile 0x01 p
  | .pdRd p => .profile 0x02 p
  | .pdGs p => .profile 0x03 p

/-- The first of two decodings that is an operation. -/
def orElseWord (a b : PortWord) : PortWord :=
  match decode a with
  | .ok _ => a
  | .error _ => b

/-- The place in the opcode table that a bare word of it stands for. The table does not say on which port a word arrives, and the
same word is an operation of several ports. DESIGN CHOICE (log 14): words of one byte or less go to FV_IN where they fit its one
bit and to PROFILE otherwise; longer words go to the first of DF_IN, ENC_IN, CRC_IN that gives them an operation. Frame and payload
are empty. `none`: the word does not fit the port. -/
def tableWord (nbits w : Nat) : Option InstrWord :=
  if nbits ≤ 8 then
    if w < 2 then some (.port (.fvIn (w == 1) []))
    else if w < 256 then some (.profile (BitVec.ofNat 8 w) [])
    else none
  else if w < 1024 then
    let bits := BitVec.ofNat 10 w
    some (.port (orElseWord (.dfIn bits) (orElseWord (.encIn bits) (.crcIn bits))))
  else none

/-- The operation the decoder reads from a bare word of the opcode table (`tableWord`). -/
def decodeTableWord (nbits w : Nat) : Option Instr := (tableWord nbits w).bind decodeWord

end Sys2Proof
end

