-- ==== Sys2Proof/Machine/Operands.lean ====
section
/-! DEFINITION. Operand forms: the nibbles of a byte (20_memory R45), little-endian fields (R44), slices and reads of a frame
(00_scope R6, 20_memory R43), wire byte classes and the escape transform (30_encoding R60, R61). -/

namespace Sys2Proof.Machine

/-- `b[7:4]` -/
def highNibble (b : Byte) : Nibble := b.extractLsb' 4 4

/-- `b[3:0]` -/
def lowNibble (b : Byte) : Nibble := b.extractLsb' 0 4

/-- The u16 whose byte at the lower offset is `lo` (R44). -/
def le16 (lo hi : Byte) : Half := lo.setWidth 16 ||| (hi.setWidth 16 <<< 8)

/-- `s[a .. b)` (R6). -/
def slice (s : List Byte) (a b : Nat) : List Byte := (s.take b).drop a

/-- FrameRead (R43): `none` where the offset is outside the frame. -/
def frameRead (f : List Byte) (i : Nat) : Option Byte := f[i]?

/-- The class of a wire byte (R60). -/
inductive ByteClass where
  | delim | esc | lit
deriving DecidableEq, Repr

/-- R60: the tests in the spec's order. -/
def classify (b : Byte) : ByteClass :=
  if b = Config.frameDelimiter then .delim
  else if b = Config.escape then .esc
  else .lit

/-- The inverse escape transform of DF: XOR, not OR (42_deframer R147). -/
def unescape (b : Byte) : Byte := b ^^^ Config.escapeXorMask

/-- The wire bytes of one data byte (30_encoding R61, 41_encoder R123). -/
def stuff (b : Byte) : List Byte :=
  if b = Config.frameDelimiter ∨ b = Config.escape then [Config.escape, b ^^^ Config.escapeXorMask]
  else [b]

end Sys2Proof.Machine
end

