-- ==== Sys2Proof/Machine/Events.lean ====
section
/-! DEFINITION. What the block places on its output ports: DF_OUT (30_encoding R74), ENC_OUT (R75), RES_OUT (R77, 60_exceptions
R220), and the values the payload decoders return (44_payload_decode R200). -/

namespace Sys2Proof.Machine

/-- LinkControl classes (44_payload_decode R204). -/
inductive LcClass where
  | status | profiles | baudRate | unknown
deriving DecidableEq, Repr

/-- GenericService classes (R211). -/
inductive GsClass where
  | read | write | writeRead | unknown
deriving DecidableEq, Repr

/-- A decoded payload: the tagged union of R179. The profile-version byte is not carried (R202). -/
inductive Payload where
  | linkControl (msgType : Byte) (msgClass : LcClass) (data : List Byte)
  | rawData (data : List Byte)
  | genericService (serviceId attributeId : Half) (msgType : Byte) (msgClass : GsClass) (errorCode : Byte) (length : Half)
      (data : List Byte)
deriving DecidableEq, Repr

/-- What a payload decoder returns (R200). -/
inductive PdResult where
  | ok (payload : Payload)
  | err
deriving DecidableEq, Repr

/-- The Frame record (43_frame_parser R179). -/
structure Frame where
  version : Byte
  read : Bool
  master : Bool
  notification : Bool
  profile : Byte
  payload : Payload
deriving DecidableEq, Repr

/-- A result on RES_OUT with the information it carries (60_exceptions R220). -/
inductive ResEvent where
  | ok (frame : Frame)
  | framingError
  | tooShort (f : List Byte)
  | badChecksum (f : List Byte)
  | invalidFlagCombination (f : List Byte)
  | unsupportedProfile (f : List Byte)
  | payloadError (f : List Byte)
deriving DecidableEq, Repr

/-- The 3-bit result code (R220). -/
def ResEvent.code : ResEvent → BitVec 3
  | .ok _ => 0
  | .framingError => 1
  | .tooShort _ => 2
  | .badChecksum _ => 3
  | .invalidFlagCombination _ => 4
  | .unsupportedProfile _ => 5
  | .payloadError _ => 6

/-- An event on DF_OUT (R74). -/
inductive DfEvent where
  | cont
  | emit (f : List Byte)
  | resyncError
deriving DecidableEq, Repr

/-- The 2-bit event kind (R74). -/
def DfEvent.kind : DfEvent → BitVec 2
  | .cont => 1
  | .emit _ => 2
  | .resyncError => 3

/-- One event, with the port it is placed on. -/
inductive PortEvent where
  | dfOut (e : DfEvent)
  | encOut (bytes : List Byte)
  | resOut (r : ResEvent)
  /-- No port of the spec: what a PD operation handed back where `exec` is asked for it alone (log 10). No step places one. -/
  | pdReturn (r : PdResult)
deriving DecidableEq, Repr

/-- The DF_OUT events of a history. -/
def dfOutOf : List PortEvent → List DfEvent
  | [] => []
  | .dfOut e :: es => e :: dfOutOf es
  | _ :: es => dfOutOf es

/-- The bytes of a history on ENC_OUT, concatenated (R75). -/
def encOutOf : List PortEvent → List Byte
  | [] => []
  | .encOut bs :: es => bs ++ encOutOf es
  | _ :: es => encOutOf es

/-- The RES_OUT events of a history (R239). -/
def resOutOf : List PortEvent → List ResEvent
  | [] => []
  | .resOut r :: es => r :: resOutOf es
  | _ :: es => resOutOf es

end Sys2Proof.Machine
end

