-- ==== Sys2Proof/Machine/State.lean ====
section
/-! DEFINITION. The state of the SSFV: the tuple of 10_state R20, and the model's own two lists, what the host will offer (log 1)
and what the block has placed on its ports (log 3). -/

namespace Sys2Proof.Machine

/-- The fault names (10_state R27, 60_exceptions R230). -/
inductive FaultName where
  | bufferOverflow
  | sourceFailure
deriving DecidableEq, Repr

/-- FAULT: a set of fault names, one bit a name (R27). -/
structure FaultSet where
  bufferOverflow : Bool
  sourceFailure : Bool
deriving DecidableEq, Repr

/-- FAULT = {} -/
def FaultSet.empty : FaultSet := ⟨false, false⟩

/-- The state. Reset values: `State.reset`. -/
structure State where
  /-- DF.esc: an escape marker is pending (R21). -/
  dfEsc : Bool
  /-- DF.sync: a frame-start delimiter has been seen (R22). -/
  dfSync : Bool
  /-- DF.buf: the frame's bytes so far, oldest first (R23). -/
  dfBuf : List Byte
  /-- DF.halted: end of stream was consumed (R25). -/
  dfHalted : Bool
  /-- CRC.acc (R26). -/
  crcAcc : Byte
  /-- FAULT (R27). -/
  fault : FaultSet
  /-- REFUSED (R35). -/
  refused : Bool
  /-- What the host will offer, next first (log 1). -/
  inputs : List HostInput
  /-- What has been placed on the output ports, oldest first (log 3). -/
  events : List PortEvent
deriving DecidableEq, Repr

/-- Why the block has no step. Each is raised where the spec says no step exists, so each is safe. -/
inductive Fault where
  /-- FAULT is non-empty: "no operation of any unit has a step" (60_exceptions R232). Raised by every operation and port word.
  Safe. -/
  | blockFaulted (names : FaultSet)
  /-- A DF operation is offered after DF.EOS (10_state R25, 42_deframer R140). Raised by the DF operations. Safe. -/
  | dfHalted
  /-- No word is offered on any port (10_state R30: "simply has no step"). Raised by the step alone. Safe. -/
  | noInput
deriving DecidableEq, Repr

/-- What the model gives no meaning. -/
inductive Refusal where
  /-- An instruction without a meaning in this model: none is left. Safe. -/
  | notModelled (mnemonic : String)
  /-- REFUSED is set: no operation has a step (10_state R35, 60_exceptions R233). Raised by every operation and port word.
  Safe. -/
  | blockRefused
  /-- FrameRead outside the frame: "The model should refuse it, never return a value" (20_memory R43). Raised by FV and PD
  through `frameRead`; no frame reaches it. Safe. -/
  | frameReadOutOfRange
deriving DecidableEq, Repr

/-- The machine right after reset (10_state R36, 70_reset R250). The two lists are the model's own: DESIGN CHOICE, empty
(logs 1 and 3). -/
def State.reset : State where
  dfEsc := false
  dfSync := false
  dfBuf := []
  dfHalted := false
  crcAcc := 0x00
  fault := FaultSet.empty
  refused := false
  inputs := []
  events := []

/-- What a step answers. -/
abbrev StepOutcome := Host.Outcome State Fault Refusal

end Sys2Proof.Machine
end

