-- ==== Sys2Proof/Machine/Ops.lean ====
section
/-! DEFINITION. The named operations over the state: output (00_scope R9), the de-framer's buffer and renewal (20_memory R41,
42_deframer R141), the checksum step (40_checksum R100, R101, R106), raising a fault and refusing (60_exceptions R230, R233), reset
(70_reset R250), and when an operation has a step (42_deframer R140, 43_frame_parser R170, 60_exceptions R232). -/

namespace Sys2Proof.Machine

/-! ### Output -/

/-- `out PORT(v)`: one more event (R9). -/
def State.out (s : State) (e : PortEvent) : State := { s with events := s.events ++ [e] }

/-- `report r`: the sink takes it in this step (60_exceptions R222). -/
def State.report (s : State) (r : ResEvent) : State := s.out (.resOut r)

/-- CRC_OUT: the accumulator, at all times (30_encoding R76). -/
def State.crcOut (s : State) : Byte := s.crcAcc

/-- DF_OUT so far. -/
def State.dfOut (s : State) : List DfEvent := dfOutOf s.events

/-- ENC_OUT so far, concatenated. -/
def State.encOut (s : State) : List Byte := encOutOf s.events

/-- RES_OUT so far. -/
def State.resOut (s : State) : List ResEvent := resOutOf s.events

/-! ### The de-framer's context -/

/-- Renewal: a fresh Decode Context (R141). -/
def State.renew (s : State) : State := { s with dfEsc := false, dfSync := false, dfBuf := [] }

/-- DF.sync <- 1, with the buffer cleared (R143). DF.esc is not written (D8). -/
def State.synchronize (s : State) : State := { s with dfSync := true, dfBuf := [] }

/-- Write DF.esc. -/
def State.setEsc (s : State) (v : Bool) : State := { s with dfEsc := v }

/-- `buf.append(v)` (R41). -/
def State.bufAppend (s : State) (v : Byte) : State := { s with dfBuf := s.dfBuf ++ [v] }

/-- Does a buffer of this length leave no room (R41, R146)? A length above BUF_CAP, which no run reaches, counts as full
(DEDUCED, log 16; safe). -/
def fullAt (cap : Option Nat) (len : Nat) : Bool :=
  match cap with
  | none => false
  | some c => decide (c ≤ len)

/-! ### The checksum -/

/-- TABLE (R100), in the spec's hexadecimal row. -/
def crcTable : List Byte :=
  [0x00, 0x2F, 0x5E, 0x71, 0xBC, 0x93, 0xE2, 0xCD] ++
  [0x57, 0x78, 0x09, 0x26, 0xEB, 0xC4, 0xB5, 0x9A]

/-- The nibble step (R101). -/
def crcNibStep (c : Byte) (n : Nibble) : Byte :=
  let index : Byte := (n.setWidth 8 ^^^ (c >>> 4)) &&& 0x0F
  crcTable.getD index.toNat 0 ^^^ ((c <<< 4) &&& 0xF0)

/-- One byte, high nibble first (R105, R106). -/
def crcByteStep (c b : Byte) : Byte := crcNibStep (crcNibStep c (highNibble b)) (lowNibble b)

/-- The bytes of `s` folded into an accumulator, in order. -/
def crcFold (c : Byte) (s : List Byte) : Byte := s.foldl crcByteStep c

/-- `compute` (R106): on a private accumulator that starts at 0. -/
def compute (s : List Byte) : Byte := crcFold 0x00 s

/-- Write CRC.acc. -/
def State.setAcc (s : State) (v : Byte) : State := { s with crcAcc := v }

/-! ### Faults, refusal, reset -/

/-- The set with one more name. -/
def FaultSet.insert (f : FaultSet) : FaultName → FaultSet
  | .bufferOverflow => { f with bufferOverflow := true }
  | .sourceFailure => { f with sourceFailure := true }

/-- Taking an exception: `raise Fault(name)` adds the name to FAULT and writes nothing else (R230). It is a next state; the
operations that follow have no step (R232, log 4). -/
def State.raiseFault (s : State) (n : FaultName) : State := { s with fault := s.fault.insert n }

/-- `refuse`: sets REFUSED (R233). -/
def State.refuse (s : State) : State := { s with refused := true }

/-- RESET writes every element (R250); what the host goes on to offer is the host's (log 15). It is the only way out of a fault, a
refusal or DF.halted: there is no return operation (60_exceptions R236). -/
def State.resetNow (s : State) : State := { State.reset with inputs := s.inputs }

/-- The state with other offers pending. -/
def State.withInputs (s : State) (l : List HostInput) : State := { s with inputs := l }

/-! ### When an operation has a step -/

/-- FAULT = {} and REFUSED = 0 (R170, R232, 10_state R35). -/
abbrev State.Running (s : State) : Prop := s.fault = FaultSet.empty ∧ s.refused = false

/-- A DF operation also needs DF.halted = 0 (R140). -/
abbrev State.DfRunning (s : State) : Prop := s.Running ∧ s.dfHalted = false

/-- An operation's effect where the block is not stuck. A fault is looked at before a refusal (log 5). -/
def State.whenRunning (s : State) (o : StepOutcome) : StepOutcome :=
  if s.fault = FaultSet.empty then
    if s.refused then .refused .blockRefused else o
  else .fault (.blockFaulted s.fault)

/-- A DF operation's effect where DF is not stuck (R140). -/
def State.whenDfRunning (s : State) (o : StepOutcome) : StepOutcome :=
  s.whenRunning (if s.dfHalted then .fault .dfHalted else o)

end Sys2Proof.Machine
end

