-- ==== Sys2Proof/Machine/Crc.lean ====
section
/-! DEFINITION. The checksum unit's operations (40_checksum R102 to R105). -/

namespace Sys2Proof.Machine

/-- CRC.IDLE (R102). -/
def execCrcIdle (s : State) : StepOutcome := s.whenRunning (.next s)

/-- CRC.INIT (R103). -/
def execCrcInit (s : State) : StepOutcome := s.whenRunning (.next (s.setAcc 0x00))

/-- CRC.BYTE (R105). -/
def execCrcByte (b : Byte) (s : State) : StepOutcome := s.whenRunning (.next (s.setAcc (crcByteStep s.crcAcc b)))

/-- CRC.NIB (R104). -/
def execCrcNib (n : Nibble) (s : State) : StepOutcome := s.whenRunning (.next (s.setAcc (crcNibStep s.crcAcc n)))

end Sys2Proof.Machine
end

