-- ==== Sys2Proof/Machine/Flags.lean ====
section
/-! DEFINITION. The flags of a frame (30_encoding R65, 43_frame_parser R174, R175) and the classes of message types
(44_payload_decode R204, R211). The SSFV has no condition codes (10_state R32). -/

namespace Sys2Proof.Machine

/-- The three flags of a frame (R65). -/
structure FrameFlags where
  read : Bool
  master : Bool
  notification : Bool
deriving DecidableEq, Repr

/-- The flags in the byte at frame offset 1; bits 3 to 7 are ignored (R174). -/
def decodeFlags (fl : Byte) : FrameFlags where
  read := fl.getLsbD 0
  master := fl.getLsbD 1
  notification := fl.getLsbD 2

/-- The illegal combination: notification and master (R175). -/
def FrameFlags.illegal (fl : FrameFlags) : Bool := fl.notification && fl.master

/-- `lcClass` (R204). The codes are pairwise distinct (R5), so the order of the tests does not matter. -/
def lcClass (t : Byte) : LcClass :=
  if t = Config.lcProfilesCode then .profiles
  else if t = Config.lcStatusCode then .status
  else if t = Config.lcBaudRateCode then .baudRate
  else .unknown

/-- `gsClass` (R211). -/
def gsClass (t : Byte) : GsClass :=
  if t = Config.gsReadCode then .read
  else if t = Config.gsWriteCode then .write
  else if t = Config.gsWriteReadCode then .writeRead
  else .unknown

end Sys2Proof.Machine
end

