-- ==== Sys2Proof/Machine/Pd.lean ====
section
/-! DEFINITION. The payload decoders (44_payload_decode R200 to R211). `none` is a FrameRead outside the payload (20_memory R43),
which the length checks rule out. -/

namespace Sys2Proof.Machine

/-- `PD.LC(p)` (R201): `p[0]`, the profile version, is read past (R202). -/
def decodeLc (p : List Byte) : Option PdResult :=
  if p.length < Config.lcMinPayload then some .err
  else do
    let msgType ← frameRead p 1
    some (.ok (.linkControl msgType (lcClass msgType) (slice p 2 p.length)))

/-- `PD.RD(p)` (R205). -/
def decodeRd (p : List Byte) : Option PdResult := some (.ok (.rawData p))

/-- `PD.GS(p)` (R206). -/
def decodeGs (p : List Byte) : Option PdResult :=
  if p.length < Config.gsMinPayload then some .err
  else do
    let serviceLo ← frameRead p 1
    let serviceHi ← frameRead p 2
    let attributeLo ← frameRead p 3
    let attributeHi ← frameRead p 4
    let msgType ← frameRead p 5
    let errorCode ← frameRead p 6
    let lengthLo ← frameRead p 7
    let lengthHi ← frameRead p 8
    some (.ok (.genericService (le16 serviceLo serviceHi) (le16 attributeLo attributeHi) msgType (gsClass msgType) errorCode
      (le16 lengthLo lengthHi) (slice p 9 p.length)))

/-- The decoder as a function (R200): what FV runs when it dispatches a payload (43_frame_parser R177, R178). -/
def runDecoder (d : PayloadDecoder) (p : List Byte) : Option PdResult :=
  match d with
  | .lc => decodeLc p
  | .rd => decodeRd p
  | .gs => decodeGs p

/-- A PD operation returns its value to FV and writes no state (R200). Where `exec` is asked for it alone the value is kept as an event
that is on no port (DESIGN CHOICE, log 10); no step does so, since no port drives a decoder (00_scope R10). -/
def State.handBack (s : State) (r : Option PdResult) : StepOutcome :=
  match r with
  | some r => .next (s.out (.pdReturn r))
  | none => .refused .frameReadOutOfRange

/-- PD.LC (R201). -/
def execPdLc (p : List Byte) (s : State) : StepOutcome := s.whenRunning (s.handBack (decodeLc p))

/-- PD.RD (R205). -/
def execPdRd (p : List Byte) (s : State) : StepOutcome := s.whenRunning (s.handBack (decodeRd p))

/-- PD.GS (R206). -/
def execPdGs (p : List Byte) (s : State) : StepOutcome := s.whenRunning (s.handBack (decodeGs p))

end Sys2Proof.Machine
end

