-- ==== Sys2Proof/Machine/Fv.lean ====
section
/-! DEFINITION. The frame validator and profile dispatcher (43_frame_parser R170 to R182). -/

namespace Sys2Proof.Machine

/-- The payload region `f[7 .. n-1)` (R176). -/
def payloadRegion (f : List Byte) : List Byte := slice f Config.headerLen (f.length - 1)

/-- Stage 7 (R178) and the Frame record (R179). -/
def assembleFrame (f : List Byte) (version : Byte) (flags : FrameFlags) (profile : Byte) : PdResult → ResEvent
  | .err => .payloadError f
  | .ok payload => .ok ⟨version, flags.read, flags.master, flags.notification, profile, payload⟩

/-- `FV.PARSE(f)` (R170): the stages in the spec's order, the first failing one decides (R180). `none` is a FrameRead outside the
frame (20_memory R43), which stage 1 rules out. -/
def parse (f : List Byte) : Option ResEvent :=
  if f.length < Config.minFrameLen then some (.tooShort f)
  else if compute f ≠ 0x00 then some (.badChecksum f)
  else do
    let version ← frameRead f 0
    let fl ← frameRead f 1
    let profile ← frameRead f 5
    if (decodeFlags fl).illegal then some (.invalidFlagCombination f)
    else
      match decoderOf profile with
      | none => some (.unsupportedProfile f)
      | some d => (runDecoder d (payloadRegion f)).map (assembleFrame f version (decodeFlags fl) profile)

/-- Validate a frame and report the result (R170, 60_exceptions R222). -/
def State.validate (s : State) (f : List Byte) : StepOutcome :=
  match parse f with
  | some r => .next (s.report r)
  | none => .refused .frameReadOutOfRange

/-- FV.PARSE (R170): it writes no state and reports one result. -/
def execFvParse (f : List Byte) (s : State) : StepOutcome := s.whenRunning (s.validate f)

/-- A frame that FV dispatches on `key` with the payload `p`: every other header byte 0, and the checksum byte of R108. -/
def carryingFrame (key : Byte) (p : List Byte) : List Byte :=
  let body := [0x00, 0x00, 0x00, 0x00, 0x00, key, 0x00] ++ p
  body ++ [compute body]

/-- The port word that makes the block run the operation at a place of the opcode table. A decoder is run by FV alone (00_scope R10),
so a frame that carries the payload to it is offered on FV_IN (log 10). -/
def offerOf : InstrWord → PortWord
  | .port w => w
  | .profile key p => .fvIn true (carryingFrame key p)

end Sys2Proof.Machine
end

