-- ==== Sys2Proof/Machine/Df.lean ====
section
/-! DEFINITION. The de-framer's operations and the pipeline behind them (42_deframer R140 to R149). -/

namespace Sys2Proof.Machine

/-- The pipeline (R149), in the same step, after DF's state writes. -/
def State.pipeline (s : State) : DfEvent → StepOutcome
  | .cont => .next s
  | .emit f => s.validate f
  | .resyncError => .next (s.report .framingError)

/-- Place an event on DF_OUT, then run the pipeline: DF_OUT precedes RES_OUT (20_memory R52). -/
def State.dfPut (s : State) (e : DfEvent) : StepOutcome := (s.out (.dfOut e)).pipeline e

/-- DF.IDLE (R142). -/
def execDfIdle (s : State) : StepOutcome := s.whenDfRunning (.next s)

/-- DF.DELIM (R143): the whole buffer is emitted and the context renewed, or the block synchronises and leaves DF.esc (D8). -/
def execDfDelim (s : State) : StepOutcome :=
  s.whenDfRunning
    (if 0 < s.dfBuf.length then s.renew.dfPut (.emit s.dfBuf) else s.synchronize.dfPut .cont)

/-- DF.ESC (R144): DF.sync is not tested (R156). -/
def execDfEsc (s : State) : StepOutcome :=
  s.whenDfRunning (if s.dfEsc then s.renew.dfPut .resyncError else (s.setEsc true).dfPut .cont)

/-- The byte a literal stands for (R145, R147). -/
def State.literalValue (s : State) (b : Byte) : Byte := if s.dfEsc then unescape b else b

/-- DF.LIT's writes: a pending escape is consumed; the byte is appended when synchronised, dropped otherwise (R145). -/
def State.acceptLiteral (s : State) (b : Byte) : State :=
  if s.dfSync then (s.setEsc false).bufAppend (s.literalValue b) else s.setEsc false

/-- DF.LIT in a block whose BUF_CAP is `cap` (R4): at capacity BufferOverflow is raised and nothing else happens (R146). -/
def dfLitAt (cap : Option Nat) (b : Byte) (s : State) : StepOutcome :=
  s.whenDfRunning
    (if s.dfSync && fullAt cap s.dfBuf.length then .next (s.raiseFault .bufferOverflow)
     else (s.acceptLiteral b).dfPut .cont)

/-- DF.LIT (R145). -/
def execDfLit (b : Byte) (s : State) : StepOutcome := dfLitAt Config.bufCap b s

/-- DF.halted <- 1 (R148). -/
def State.halt (s : State) : State := { s with dfHalted := true }

/-- DF.EOS (R148): a partial frame is discarded without a report. -/
def execDfEos (s : State) : StepOutcome := s.whenDfRunning (.next s.renew.halt)

end Sys2Proof.Machine
end

