-- ==== Sys2Proof/Machine/Enc.lean ====
section
/-! DEFINITION. The encoder's operations (41_encoder R120 to R123): each places one byte sequence on ENC_OUT. -/

namespace Sys2Proof.Machine

/-- ENC.IDLE: `out ENC_OUT([])` (R121). -/
def execEncIdle (s : State) : StepOutcome := s.whenRunning (.next (s.out (.encOut [])))

/-- ENC.DELIM (R122). -/
def execEncDelim (s : State) : StepOutcome := s.whenRunning (.next (s.out (.encOut [Config.frameDelimiter])))

/-- ENC.DATA (R123). -/
def execEncData (b : Byte) (s : State) : StepOutcome := s.whenRunning (.next (s.out (.encOut (stuff b))))

end Sys2Proof.Machine
end

