-- ==== Sys2Proof/Machine/Dispatch.lean ====
section
/-! DEFINITION. One arm per operation: the meaning it calls. -/

namespace Sys2Proof.Machine

def exec (i : Instr) (s : State) : Host.Outcome State Fault Refusal :=
  match i with
  | .crcIdle => Sys2Proof.Machine.execCrcIdle s
  | .crcInit => Sys2Proof.Machine.execCrcInit s
  | .crcByte b => Sys2Proof.Machine.execCrcByte b s
  | .crcNib n => Sys2Proof.Machine.execCrcNib n s
  | .encIdle => Sys2Proof.Machine.execEncIdle s
  | .encDelim => Sys2Proof.Machine.execEncDelim s
  | .encData b => Sys2Proof.Machine.execEncData b s
  | .dfIdle => Sys2Proof.Machine.execDfIdle s
  | .dfDelim => Sys2Proof.Machine.execDfDelim s
  | .dfEsc => Sys2Proof.Machine.execDfEsc s
  | .dfLit b => Sys2Proof.Machine.execDfLit b s
  | .dfEos => Sys2Proof.Machine.execDfEos s
  | .fvParse f => Sys2Proof.Machine.execFvParse f s
  | .pdLc p => Sys2Proof.Machine.execPdLc p s
  | .pdRd p => Sys2Proof.Machine.execPdRd p s
  | .pdGs p => Sys2Proof.Machine.execPdGs p s

end Sys2Proof.Machine
end

