-- ==== Sys2Proof/Machine/Ports.lean ====
section
/-! DEFINITION. What the block does at a step in which no operation is decoded: a word that is none, SRC_FAIL, RESET, or nothing
offered (60_exceptions R231, R233, R234; 70_reset R250; 10_state R30). -/

namespace Sys2Proof.Machine

/-- A word that is no operation, taken from the offers. A reserved word sets REFUSED (R233), whether or not DF is halted (log 7);
FV_IN with req = 0 does nothing (30_encoding R73, log 9). While the block is stuck it has no step for either. -/
def State.takeNonOperation (s : State) : DecodeError → StepOutcome
  | .reservedWord => s.whenRunning (.next s.refuse)
  | .noRequest => s.whenRunning (.next s)

/-- SRC_FAIL (R231), at any step (log 8). A word offered with it stays offered: it "is not consumed" (R234). -/
def State.takeSrcFail (s : State) : StepOutcome := .next (s.raiseFault .sourceFailure)

/-- RESET (70_reset R250), at any step: stuck or not. -/
def State.takeReset (s : State) : StepOutcome := .next s.resetNow

/-- Nothing is offered: no step (10_state R30). A stuck block shows why it is stuck (R230, log 4). -/
def State.takeNothing (s : State) : StepOutcome := s.whenRunning (.fault .noInput)

end Sys2Proof.Machine
end

