-- ==== Sys2Proof/Machine/Step.lean ====
section
/-! DEFINITION. One step: the host's next offer is taken and carried to completion (00_scope R3). -/

namespace Sys2Proof.Machine

/-- The step function. The offer is removed from `inputs`; an operation then runs on the state that is left. -/
def step (s : State) : Host.Outcome State Fault Refusal :=
  match s.inputs with
  | [] => s.takeNothing
  | .reset :: rest => (s.withInputs rest).takeReset
  | .srcFail :: rest => (s.withInputs rest).takeSrcFail
  | .word w :: rest =>
    match decode w with
    | .ok i => exec i (s.withInputs rest)
    | .error e => (s.withInputs rest).takeNonOperation e

/-- `s` with the instruction that `decodeTableWord nbits w` reads offered next (logs 2 and 14); a payload decoder by way of the frame
that carries its payload (log 10). -/
def State.withFetchWord (s : State) (nbits w : Nat) : State :=
  match tableWord nbits w with
  | some iw => s.withInputs (.word (offerOf iw) :: s.inputs)
  | none => s

end Sys2Proof.Machine
end

