-- ==== Sys2Proof/Machine/Pseudo.lean ====
section
/-! DEFINITION. The pseudo-operations of 30_encoding R80, as lists of operations, the wire form of a frame (41_encoder R124), and
the offers that spell a list of operations on the ports (30_encoding R81). -/

namespace Sys2Proof.Machine

/-- `CRC.COMPUTE s` (R80). -/
def crcCompute (s : List Byte) : List Instr := .crcInit :: s.map .crcByte

/-- `ENC.FRAME s` (R80). -/
def encFrame (s : List Byte) : List Instr := .encDelim :: (s.map .encData ++ [.encDelim])

/-- `DF.FEED b` (R80): the source's `feed`. -/
def dfFeed (b : Byte) : Instr :=
  match classify b with
  | .delim => .dfDelim
  | .esc => .dfEsc
  | .lit => .dfLit b

/-- `DF.STREAM s` (R80). -/
def dfStream (s : List Byte) : List Instr := s.map dfFeed

/-- `DF.STREAM_EOS s` (R80): the source's `decodeStream` (R150). -/
def dfStreamEos (s : List Byte) : List Instr := dfStream s ++ [.dfEos]

/-- The body of an encoded frame: every byte stuffed. -/
def wireBody (x : List Byte) : List Byte := x.flatMap stuff

/-- `encode(x)` (R124). -/
def wireEncode (x : List Byte) : List Byte := Config.frameDelimiter :: (wireBody x ++ [Config.frameDelimiter])

/-- The offers that spell these operations, one word each (R81). -/
def offersOf (is : List Instr) : List HostInput := is.map (fun i => .word (offerOf (encode i)))

end Sys2Proof.Machine
end

