-- ==== Sys2Proof/Safety.lean ====
section
/-! DEFINITION. What claims are stated in: runs of the machine, the invariants of the state (10_state R20, R29; 42_deframer R148, R149,
R154), the good end of a run (60_exceptions R239), the units (00_scope R1), and two reference designs: the transition table of
42_deframer R151 and the bitwise CRC of 40_checksum R109. -/

namespace Sys2Proof.Machine

/-- `n` steps of the machine. -/
def runSteps (n : Nat) (s : State) : StepOutcome := Host.Core.run Sys2Proof.core n s

/-- Does the operation renew the de-framer's context (42_deframer R141): after an Emit (R143), a ResyncError (R144) or at the end of the
stream (R148)? -/
def Renews (i : Instr) (s : State) : Prop :=
  (i = .dfDelim ∧ s.dfBuf ≠ []) ∨ (i = .dfEsc ∧ s.dfEsc = true) ∨ i = .dfEos

/-- Do `n` bytes fit the de-framer's buffer (00_scope R4)? -/
def FitsBuffer (n : Nat) : Prop := ∀ c, Config.bufCap = some c → n ≤ c

/-- A fresh Decode Context (10_state R24). -/
abbrev FreshContext (s : State) : Prop := s.dfEsc = false ∧ s.dfSync = false ∧ s.dfBuf = []

/-- The de-framer's context: a non-empty buffer is synchronised (R29), it is within BUF_CAP (R20), and a halted de-framer holds a
fresh context (R148). -/
def ContextInv (s : State) : Prop :=
  (s.dfBuf ≠ [] → s.dfSync = true) ∧ FitsBuffer s.dfBuf.length ∧ (s.dfHalted = true → FreshContext s)

/-- Does the history report at once what the de-framer put out (R149), and does it hold no empty frame (R154)? -/
def reportedAtOnce : List PortEvent → Bool
  | [] => true
  | .dfOut (.emit f) :: .resOut r :: es => !f.isEmpty && parse f == some r && reportedAtOnce es
  | .dfOut (.emit _) :: _ => false
  | .dfOut .resyncError :: .resOut r :: es => r == .framingError && reportedAtOnce es
  | .dfOut .resyncError :: _ => false
  | _ :: es => reportedAtOnce es

/-- Nothing that the de-framer put out went unreported. -/
def ReportInv (s : State) : Prop := reportedAtOnce s.events = true

/-- A run that has ended well (R239). -/
def EndsWell (s : State) : Prop := s.dfHalted = true ∧ s.Running

/-- The units of R1; the payload decoders are counted apart from FV. -/
inductive HwUnit where
  | crc | enc | df | fv | pd
deriving DecidableEq, Repr

/-- The unit an operation belongs to (R10). -/
def unitOf : Instr → HwUnit
  | .crcIdle => .crc
  | .crcInit => .crc
  | .crcByte _ => .crc
  | .crcNib _ => .crc
  | .encIdle => .enc
  | .encDelim => .enc
  | .encData _ => .enc
  | .dfIdle => .df
  | .dfDelim => .df
  | .dfEsc => .df
  | .dfLit _ => .df
  | .dfEos => .df
  | .fvParse _ => .fv
  | .pdLc _ => .pd
  | .pdRd _ => .pd
  | .pdGs _ => .pd

/-- The transition table of R151, row by row (S0 to S5) and column by column (DELIM, ESC, LIT b): the next escape flag,
synchronisation and buffer, and the event. The row `sync = 0` with a non-empty buffer, which R29 rules out, is not in the table. -/
def dfTable (esc sync : Bool) (buf : List Byte) (b : Byte) : Option (Bool × Bool × List Byte × DfEvent) :=
  match esc, sync, buf, classify b with
  | false, false, [], .delim => some (false, true, [], .cont)
  | false, false, [], .esc => some (true, false, [], .cont)
  | false, false, [], .lit => some (false, false, [], .cont)
  | true, false, [], .delim => some (true, true, [], .cont)
  | true, false, [], .esc => some (false, false, [], .resyncError)
  | true, false, [], .lit => some (false, false, [], .cont)
  | false, true, [], .delim => some (false, true, [], .cont)
  | false, true, [], .esc => some (true, true, [], .cont)
  | false, true, [], .lit => some (false, true, [b], .cont)
  | true, true, [], .delim => some (true, true, [], .cont)
  | true, true, [], .esc => some (false, false, [], .resyncError)
  | true, true, [], .lit => some (false, true, [b ^^^ 0x20], .cont)
  | false, true, x :: xs, .delim => some (false, false, [], .emit (x :: xs))
  | false, true, x :: xs, .esc => some (true, true, x :: xs, .cont)
  | false, true, x :: xs, .lit => some (false, true, x :: xs ++ [b], .cont)
  | true, true, x :: xs, .delim => some (false, false, [], .emit (x :: xs))
  | true, true, _ :: _, .esc => some (false, false, [], .resyncError)
  | true, true, x :: xs, .lit => some (false, true, x :: xs ++ [b ^^^ 0x20], .cont)
  | _, false, _ :: _, _ => none

/-- One bit of the bitwise CRC with generator 0x2F (R109). -/
def crcBit (c : Byte) : Byte := if c.getLsbD 7 then (c <<< 1) ^^^ 0x2F else c <<< 1

/-- The bitwise CRC-8 with generator 0x2F, initial value 0, no reflection, no final XOR (R109). -/
def bitwiseCrc (s : List Byte) : Byte :=
  s.foldl (fun c b => crcBit (crcBit (crcBit (crcBit (crcBit (crcBit (crcBit (crcBit (c ^^^ b))))))))) 0x00

end Sys2Proof.Machine
end

