-- ==== Sys2Proof/Certificates/Slice0/Obligations.lean ====
section
/-! DEFINITION. The statements for the provers. Each docstring names the rules of the spec a statement formalises. Where a clause
rests on a choice of the model, the docstring names the log entry. -/

open Sys2Proof Sys2Proof.Machine

/-! ## The checksum unit -/

/-- R100, R101. The table's sixteen values in the source's decimal row, its XOR-linearity, and the nibble step as arithmetic on
numbers. -/
def Obligations.NibbleStepIsTableLookup : Prop :=
  (∀ n : Nibble, (crcTable.getD n.toNat 0).toNat =
    [0, 47, 94, 113, 188, 147, 226, 205, 87, 120, 9, 38, 235, 196, 181, 154].getD n.toNat 0) ∧
  (∀ a b : Nibble, crcTable.getD (a ^^^ b).toNat 0 = crcTable.getD a.toNat 0 ^^^ crcTable.getD b.toNat 0) ∧
  (∀ (c : Byte) (n : Nibble), crcNibStep c n =
    crcTable.getD ((n.toNat ^^^ (c.toNat / 16)) % 16) 0 ^^^ BitVec.ofNat 8 ((c.toNat * 16) % 256))

/-- R102. CRC.IDLE changes nothing; every CRC_IN word with cmd = 00 is one. -/
def Obligations.CrcIdleChangesNothing : Prop :=
  (∀ s : State, s.Running → exec .crcIdle s = .next s) ∧
  (∀ w : PortBits, w.extractLsb' 8 2 = 0 → decode (.crcIn w) = .ok .crcIdle)

/-- R103. CRC.INIT writes 0x00 and nothing else; every CRC_IN word with cmd = 01 is one. -/
def Obligations.CrcInitClearsAccumulator : Prop :=
  (∀ s : State, s.Running → exec .crcInit s = .next { s with crcAcc := 0x00 }) ∧
  (∀ w : PortBits, w.extractLsb' 8 2 = 1 → decode (.crcIn w) = .ok .crcInit)

/-- R104. CRC.NIB folds the nibble CRC_IN[3:0] and writes nothing else; CRC_IN[7:4] is ignored; the rule's corner cases. -/
def Obligations.CrcNibFoldsOneNibble : Prop :=
  (∀ (n : Nibble) (s : State), s.Running → exec (.crcNib n) s = .next { s with crcAcc := crcNibStep s.crcAcc n }) ∧
  (∀ w : PortBits, w.extractLsb' 8 2 = 3 → decode (.crcIn w) = .ok (.crcNib (w.extractLsb' 0 4))) ∧
  (∀ (c : Byte) (n : Nibble), n.setWidth 8 = c >>> 4 → crcNibStep c n = (c <<< 4) &&& 0xF0) ∧
  crcNibStep 0x00 0x0 = 0x00 ∧ crcNibStep 0xFF 0xF = 0xF0 ∧ crcNibStep 0xA5 0x5 = 0xCA ∧ crcNibStep 0x2F 0x3 = 0xDF

/-- R105. CRC.BYTE folds b[7:4], then b[3:0], and writes nothing else; the rule's corner cases. -/
def Obligations.CrcByteFoldsHighNibbleFirst : Prop :=
  (∀ (b : Byte) (s : State), s.Running → exec (.crcByte b) s =
    .next { s with crcAcc := crcNibStep (crcNibStep s.crcAcc (b.extractLsb' 4 4)) (b.extractLsb' 0 4) }) ∧
  (∀ w : PortBits, w.extractLsb' 8 2 = 2 → decode (.crcIn w) = .ok (.crcByte (w.extractLsb' 0 8))) ∧
  (∀ c : Byte, crcNibStep (crcNibStep c (c.extractLsb' 4 4)) (c.extractLsb' 0 4) = 0x00) ∧
  crcNibStep (crcNibStep 0x00 0x0) 0x0 = 0x00 ∧ crcNibStep (crcNibStep 0x00 0x1) 0x0 = 0xAE

/-- R106. `compute` folds every byte, first byte first and high nibble first, from 0x00; FV.PARSE evaluates it without reading or
writing CRC.acc. -/
def Obligations.ComputeIsPrivateFold : Prop :=
  (∀ s : List Byte, compute s =
    s.foldl (fun c b => crcNibStep (crcNibStep c (b.extractLsb' 4 4)) (b.extractLsb' 0 4)) 0x00) ∧
  compute [] = 0x00 ∧
  (∀ (f : List Byte) (v : Byte) (s : State), s.Running → ∃ t, exec (.fvParse f) s = .next t ∧ t.crcAcc = s.crcAcc ∧
    exec (.fvParse f) { s with crcAcc := v } = .next { t with crcAcc := v })

/-- 40_checksum section 3 (R107, which the spec derives). Running CRC.COMPUTE from any state in which the block runs: after the
CRC.BYTE of any prefix `p`, CRC_OUT is `compute p`, and nothing but the accumulator and the pending offers has changed. -/
def Obligations.CrcComputeLeavesChecksum : Prop :=
  ∀ (p q : List Byte) (rest : List HostInput) (s : State), s.Running →
    ∃ t, runSteps (1 + p.length) { s with inputs := offersOf (crcCompute (p ++ q)) ++ rest } = .next t ∧
      t.crcOut = compute p ∧
      t = { s with crcAcc := compute p, inputs := offersOf (q.map .crcByte) ++ rest }

/-- 40_checksum section 3 (R108, derived). Zero residue. -/
def Obligations.ZeroResidue : Prop :=
  ∀ m : List Byte, compute (m ++ [compute m]) = 0x00

/-- 40_checksum section 3 (R110, derived). Leading zeros are invisible, and `compute` is linear. -/
def Obligations.ChecksumIsLinear : Prop :=
  (∀ (k : Nat) (s : List Byte), compute (List.replicate k 0x00 ++ s) = compute s) ∧
  (∀ s t : List Byte, s.length = t.length → compute (List.zipWith (· ^^^ ·) s t) = compute s ^^^ compute t)

/-- 40_checksum section 3 (R109, which the spec marks as derived and as general knowledge). The table-driven design equals the
bitwise CRC with generator 0x2F. -/
def Obligations.TableCrcEqualsBitwiseCrc : Prop :=
  ∀ s : List Byte, compute s = bitwiseCrc s

/-- 60_exceptions section 1 (R225), whose second clause rests on R111, which the spec derives from general knowledge. A frame of at least
8 bytes whose checksum is not zero is BadChecksum, and so is every frame that differs from one with checksum zero in exactly one byte. -/
def Obligations.SingleByteCorruptionIsBadChecksum : Prop :=
  (∀ f : List Byte, 8 ≤ f.length → compute f ≠ 0x00 → parse f = some (.badChecksum f)) ∧
  (∀ (f : List Byte) (i : Nat) (b : Byte), 8 ≤ f.length → compute f = 0x00 → i < f.length → f[i]? ≠ some b →
    parse (f.set i b) = some (.badChecksum (f.set i b)))

/-! ## The encoder -/

/-- R121. ENC.IDLE emits the empty sequence and writes no state. -/
def Obligations.EncIdleEmitsNothing : Prop :=
  (∀ s : State, s.Running → ∃ t, exec .encIdle s = .next t ∧ t = { s with events := s.events ++ [.encOut []] } ∧
    t.encOut = s.encOut) ∧
  (∀ w : PortBits, w.extractLsb' 8 2 = 0 → decode (.encIn w) = .ok .encIdle)

/-- R122. ENC.DELIM emits 0x7E and writes no state. -/
def Obligations.EncDelimEmitsDelimiter : Prop :=
  (∀ s : State, s.Running → ∃ t, exec .encDelim s = .next t ∧ t = { s with events := s.events ++ [.encOut [0x7E]] } ∧
    t.encOut = s.encOut ++ [0x7E]) ∧
  (∀ w : PortBits, w.extractLsb' 8 2 = 1 → decode (.encIn w) = .ok .encDelim)

/-- R123. ENC.DATA emits the byte, stuffed if it is 0x7E or 0x7D, and writes no state. -/
def Obligations.EncDataStuffsSpecialBytes : Prop :=
  (∀ (b : Byte) (s : State), s.Running → ∃ t, exec (.encData b) s = .next t ∧
    t = { s with events := s.events ++ [.encOut (if b = 0x7E ∨ b = 0x7D then [0x7D, b ^^^ 0x20] else [b])] } ∧
    t.encOut = s.encOut ++ (if b = 0x7E ∨ b = 0x7D then [0x7D, b ^^^ 0x20] else [b])) ∧
  (∀ w : PortBits, w.extractLsb' 8 2 = 2 → decode (.encIn w) = .ok (.encData (w.extractLsb' 0 8)))

/-- 41_encoder (R124, derived). `encode` is the source's loop, and the expansion of ENC.FRAME, run from any state in which the block
runs, puts exactly `encode x` on ENC_OUT and changes nothing else. -/
def Obligations.EncFrameEmitsEncode : Prop :=
  (∀ x : List Byte, wireEncode x =
    x.foldl (fun w b => w ++ if b = 0x7E ∨ b = 0x7D then [0x7D, b ^^^ 0x20] else [b]) [0x7E] ++ [0x7E]) ∧
  (∀ (x : List Byte) (rest : List HostInput) (s : State), s.Running →
    ∃ t, runSteps (x.length + 2) { s with inputs := offersOf (encFrame x) ++ rest } = .next t ∧
      t = { s with inputs := rest, events := t.events } ∧ t.encOut = s.encOut ++ wireEncode x ∧ t.dfOut = s.dfOut ∧
      t.resOut = s.resOut)

/-- 41_encoder (R125, R126, derived). The delimiter occurs exactly twice, first and last; every 0x7D is followed by 0x5E or 0x5D; the
length law. -/
def Obligations.EncodeGuarantees : Prop :=
  ∀ x : List Byte,
    (wireEncode x).count 0x7E = 2 ∧ (wireEncode x).head? = some 0x7E ∧ (wireEncode x).getLast? = some 0x7E ∧
    (∀ k : Nat, (wireEncode x)[k]? = some 0x7D →
      (wireEncode x)[k + 1]? = some 0x5E ∨ (wireEncode x)[k + 1]? = some 0x5D) ∧
    (wireEncode x).length = x.length + x.countP (fun b => b == 0x7E || b == 0x7D) + 2

/-! ## The de-framer -/

/-- R142. DF.IDLE changes nothing and emits nothing. -/
def Obligations.DfIdleChangesNothing : Prop :=
  (∀ s : State, s.DfRunning → exec .dfIdle s = .next s) ∧
  (∀ w : PortBits, w.extractLsb' 8 2 = 0 → decode (.dfIn w) = .ok .dfIdle)

/-- R143, with the pipeline's report of the emitted frame. On an empty buffer DF.DELIM synchronises and leaves DF.esc; on a
non-empty one it emits the whole buffer and renews the context. -/
def Obligations.DfDelimEmitsOrSynchronizes : Prop :=
  (∀ s : State, s.DfRunning →
    (s.dfBuf = [] →
      exec .dfDelim s = .next { s with dfSync := true, dfBuf := [], events := s.events ++ [.dfOut .cont] }) ∧
    (s.dfBuf ≠ [] → ∃ r, parse s.dfBuf = some r ∧
      exec .dfDelim s = .next { s with dfEsc := false, dfSync := false, dfBuf := [],
                                       events := s.events ++ [.dfOut (.emit s.dfBuf), .resOut r] })) ∧
  decode (.dfIn 0x17E) = .ok .dfDelim

/-- R144. DF.ESC records the escape, or reports ResyncError (to the sink, FramingError) and renews; DF.sync is not tested. -/
def Obligations.DfEscPendsOrResyncs : Prop :=
  (∀ s : State, s.DfRunning →
    (s.dfEsc = false →
      exec .dfEsc s = .next { s with dfEsc := true, events := s.events ++ [.dfOut .cont] }) ∧
    (s.dfEsc = true →
      exec .dfEsc s = .next { s with dfEsc := false, dfSync := false, dfBuf := [],
                                     events := s.events ++ [.dfOut .resyncError, .resOut .framingError] })) ∧
  decode (.dfIn 0x17D) = .ok .dfEsc

/-- 42_deframer section 2 (R145, R147). DF.LIT, whatever BUF_CAP is (`cap`): at capacity it raises BufferOverflow; otherwise it consumes
a pending escape by XOR with 0x20 and, when synchronised, appends. That the raising step is a next state with the name in FAULT is the
model's choice (log 4). The premise on the length is the type of DF.buf in R20. The last clause says where DF.LIT of this block
completes. -/
def Obligations.DfLitUnescapesAndAppends : Prop :=
  (∀ (cap : Option Nat) (b : Byte) (s : State), (Instr.dfLit b).wf = true → s.DfRunning →
    (∀ c, cap = some c → s.dfBuf.length ≤ c) →
    dfLitAt cap b s =
      if s.dfSync = true ∧ cap = some s.dfBuf.length then
        .next { s with fault := { s.fault with bufferOverflow := true } }
      else
        .next { s with dfEsc := false,
                       dfBuf := if s.dfSync then s.dfBuf ++ [if s.dfEsc then b ^^^ 0x20 else b] else s.dfBuf,
                       events := s.events ++ [.dfOut .cont] }) ∧
  (∀ b : Byte, (Instr.dfLit b).wf = true → decode (.dfIn (0x100 ||| b.setWidth 10)) = .ok (.dfLit b)) ∧
  (∀ (b : Byte) (s : State), exec (.dfLit b) s = dfLitAt Config.bufCap b s) ∧
  (∀ (b : Byte) (s : State), (Instr.dfLit b).wf = true → s.DfRunning →
    (s.dfSync = true → FitsBuffer (s.dfBuf.length + 1)) →
    exec (.dfLit b) s =
      .next { s with dfEsc := false,
                     dfBuf := if s.dfSync then s.dfBuf ++ [if s.dfEsc then b ^^^ 0x20 else b] else s.dfBuf,
                     events := s.events ++ [.dfOut .cont] })

/-- 42_deframer section 2 (R146). At capacity DF.LIT raises BufferOverflow and writes nothing else; from then on no operation has a step;
with BUF_CAP unbounded it never occurs. That the raising step is a next state with the name in FAULT is the model's choice (log 4). -/
def Obligations.DfLitOverflowSticks : Prop :=
  (∀ (n : Nat) (b : Byte) (s : State), s.DfRunning → s.dfSync = true → s.dfBuf.length = n →
    ∃ t, dfLitAt (some n) b s = .next t ∧ t = { s with fault := ⟨true, false⟩ } ∧
      ∀ (i : Instr) (u : State), exec i t ≠ .next u) ∧
  (∀ (b : Byte) (s t : State), dfLitAt none b s = .next t → t.fault = s.fault)

/-- R148. DF.EOS discards the partial frame without a report and halts DF, which then has no step. -/
def Obligations.DfEosHaltsWithoutReport : Prop :=
  (∀ s : State, s.DfRunning → ∃ t, exec .dfEos s = .next t ∧
    t = { s with dfEsc := false, dfSync := false, dfBuf := [], dfHalted := true } ∧
    ∀ (i : Instr) (u : State), unitOf i = .df → exec i t ≠ .next u) ∧
  (∀ w : PortBits, w.extractLsb' 8 2 = 2 → decode (.dfIn w) = .ok .dfEos)

/-- R140 (its last clauses), R149. A DF byte operation that goes on and does not overflow puts exactly one event on DF_OUT, and the
pipeline's report of it follows at once: nothing for Continue, FV's result for Emit, FramingError for ResyncError. -/
def Obligations.PipelineReportsEveryDfEvent : Prop :=
  ∀ (i : Instr) (s t : State), (i = .dfDelim ∨ i = .dfEsc ∨ ∃ b, i = .dfLit b) → exec i s = .next t → t.fault = s.fault →
    ∃ (e : DfEvent) (rs : List ResEvent), t.events = s.events ++ .dfOut e :: rs.map .resOut ∧
      (e = .cont → rs = []) ∧
      (∀ f, e = .emit f → f = s.dfBuf ∧ f ≠ [] ∧ ∃ r, parse f = some r ∧ rs = [r]) ∧
      (e = .resyncError → s.dfEsc = true ∧ rs = [.framingError])

/-- 42_deframer section 4 (R151, derived). The de-framer refines the transition table: from every state that R29 allows and with
room for one byte, feeding a wire byte makes the table's move and puts the table's event on DF_OUT. -/
def Obligations.DfRefinesTransitionTable : Prop :=
  ∀ (s : State) (b : Byte), s.DfRunning → (s.dfBuf ≠ [] → s.dfSync = true) → FitsBuffer (s.dfBuf.length + 1) →
    ∃ t e, exec (dfFeed b) s = .next t ∧ dfTable s.dfEsc s.dfSync s.dfBuf b = some (t.dfEsc, t.dfSync, t.dfBuf, e) ∧
      t.dfOut = s.dfOut ++ [e] ∧ t = { s with dfEsc := t.dfEsc, dfSync := t.dfSync, dfBuf := t.dfBuf, events := t.events }

/-- 42_deframer section 5 (R153, derived). Round trip: from a fresh context, streaming `encode x` for a non-empty `x` that fits the
buffer gives Continue for every byte but the last, then exactly one Emit, of `x`, and its one report, and ends fresh. -/
def Obligations.RoundTripEmitsTheFrame : Prop :=
  ∀ (x : List Byte) (rest : List HostInput) (s : State), s.DfRunning → FreshContext s → x ≠ [] → FitsBuffer x.length →
    ∃ r, parse x = some r ∧
      runSteps (wireEncode x).length { s with inputs := offersOf (dfStream (wireEncode x)) ++ rest } =
        .next { s with inputs := rest,
                       events := s.events ++ List.replicate ((wireEncode x).length - 1) (.dfOut .cont) ++
                         [.dfOut (.emit x), .resOut r] }

/-- 42_deframer section 3 (R150) and 60_exceptions (R229, R239). Any wire stream at all, with room in the buffer, is consumed byte by
byte to a good end: no stream is refused or faults, every byte has its DF_OUT event, and nothing goes unreported. -/
def Obligations.EveryStreamEndsWell : Prop :=
  ∀ (w : List Byte) (rest : List HostInput) (s : State), s.DfRunning → FitsBuffer (s.dfBuf.length + w.length) →
    ∃ t es, runSteps (w.length + 1) { s with inputs := offersOf (dfStreamEos w) ++ rest } = .next t ∧ EndsWell t ∧
      FreshContext t ∧ t.inputs = rest ∧ t.crcAcc = s.crcAcc ∧ t.events = s.events ++ es ∧
      (dfOutOf es).length = w.length ∧ reportedAtOnce es = true

/-- 42_deframer section 5 (R155, derived). From a fresh context two escape markers and a literal give Continue, ResyncError (reported
as FramingError) and Continue, and the context is fresh again. -/
def Obligations.DoubleEscapeRecovers : Prop :=
  ∀ (b : Byte) (rest : List HostInput) (s : State), (Instr.dfLit b).wf = true → s.DfRunning → FreshContext s →
    runSteps 3 { s with inputs := offersOf (dfStream [0x7D, 0x7D, b]) ++ rest } =
      .next { s with inputs := rest,
                     events := s.events ++ [.dfOut .cont, .dfOut .resyncError, .resOut .framingError, .dfOut .cont] }

/-- 70_reset_and_hazards section 2 (R254, derived). A delimiter shared by two frames loses the second: from a fresh context, `7E x 7E y
7E` (stuffed) reports `x` only and ends synchronised with an empty buffer. -/
def Obligations.SharedDelimiterLosesSecondFrame : Prop :=
  ∀ (x y : List Byte) (rest : List HostInput) (s : State), s.DfRunning → FreshContext s → x ≠ [] → FitsBuffer x.length →
    ∃ t r, runSteps (wireEncode x ++ wireBody y ++ [0x7E]).length
        { s with inputs := offersOf (dfStream (wireEncode x ++ wireBody y ++ [0x7E])) ++ rest } = .next t ∧
      parse x = some r ∧ t.resOut = s.resOut ++ [r] ∧
      t = { s with dfSync := true, inputs := rest, events := t.events }

/-- 70_reset_and_hazards section 2 (R256, R257, R258, derived). From a fresh context: a dangling escape before the closing delimiter is
dropped, and an empty frame leaves DF synchronised, so that the bytes after it are a frame (any non-empty frame, in both); an escape
before the opening delimiter changes a literal first byte by XOR 0x20. Each stream reports one result, of the frame named, and ends in
a fresh context. -/
def Obligations.EscapesAtDelimiters : Prop :=
  ∀ (w f : List Byte) (rest : List HostInput) (s : State), s.DfRunning → FreshContext s → f ≠ [] → FitsBuffer f.length →
    (w = [0x7E] ++ wireBody f ++ [0x7D, 0x7E] ∨
      w = [0x7E, 0x7E] ++ wireBody f ++ [0x7E] ∨
      ∃ c x, (Instr.dfLit c).wf = true ∧ w = [0x7D] ++ wireEncode (c :: x) ∧ f = (c ^^^ 0x20) :: x) →
    ∃ t r, runSteps w.length { s with inputs := offersOf (dfStream w) ++ rest } = .next t ∧ parse f = some r ∧
      t.resOut = s.resOut ++ [r] ∧ t = { s with inputs := rest, events := t.events }

/-! ## The frame validator and the payload decoders -/

/-- R171 to R173 and R175 to R179: FV.PARSE of every frame completes, writes no state and reports one result, which the stages decide
in the spec's order. (The class names rest on the open codes of R5.) -/
def Obligations.FvParseStagesDecideTheResult : Prop :=
  ∀ (f : List Byte) (s : State), s.Running →
    exec (.fvParse f) s = .next { s with events := s.events ++ [.resOut (
      if f.length < 8 then .tooShort f
      else if compute f ≠ 0x00 then .badChecksum f
      else if (f.getD 1 0).getLsbD 2 = true ∧ (f.getD 1 0).getLsbD 1 = true then .invalidFlagCombination f
      else
        let frame (p : Payload) : ResEvent :=
          .ok ⟨f.getD 0 0, (f.getD 1 0).getLsbD 0, (f.getD 1 0).getLsbD 1, (f.getD 1 0).getLsbD 2, f.getD 5 0, p⟩
        if f.getD 5 0 = 1 then
          if f.length - 8 < 2 then .payloadError f
          else frame (.linkControl (f.getD 8 0) (lcClass (f.getD 8 0)) ((f.drop 9).dropLast))
        else if f.getD 5 0 = 2 then frame (.rawData ((f.drop 7).dropLast))
        else if f.getD 5 0 = 3 then
          if f.length - 8 < 9 then .payloadError f
          else frame (.genericService (le16 (f.getD 8 0) (f.getD 9 0)) (le16 (f.getD 10 0) (f.getD 11 0)) (f.getD 12 0)
            (gsClass (f.getD 12 0)) (f.getD 13 0) (le16 (f.getD 14 0) (f.getD 15 0)) ((f.drop 16).dropLast))
        else .unsupportedProfile f)] }

/-- 43_frame_parser (R180, R183, derived). A frame is accepted exactly when its length, checksum, flags and profile are in order, and
then the record's profile and payload agree and the flags are not the illegal pair. -/
def Obligations.AcceptedExactlyWhenWellFormed : Prop :=
  (∀ f : List Byte, (∃ fr, parse f = some (.ok fr)) ↔
    8 ≤ f.length ∧ compute f = 0x00 ∧ ¬((f.getD 1 0).getLsbD 1 = true ∧ (f.getD 1 0).getLsbD 2 = true) ∧
    ((f.getD 5 0 = 1 ∧ 10 ≤ f.length) ∨ f.getD 5 0 = 2 ∨ (f.getD 5 0 = 3 ∧ 17 ≤ f.length))) ∧
  (∀ (f : List Byte) (fr : Frame), parse f = some (.ok fr) →
    ¬(fr.master = true ∧ fr.notification = true) ∧
    ((fr.profile = 1 ∧ ∃ m c d, fr.payload = .linkControl m c d ∧ d.length = f.length - 10) ∨
     (fr.profile = 2 ∧ ∃ d, fr.payload = .rawData d ∧ d.length = f.length - 8) ∨
     (fr.profile = 3 ∧ ∃ a b m c e l d, fr.payload = .genericService a b m c e l d ∧ d.length = f.length - 17)))

/-- 43_frame_parser (R181, derived). A frame that agrees with an accepted one but for the reserved bits and bytes, the version and a
recomputed checksum byte is accepted, with the same record but for the version it carries. -/
def Obligations.ReservedFieldsNeverReject : Prop :=
  ∀ (f g : List Byte) (fr : Frame), parse f = some (.ok fr) → g.length = f.length → compute g = 0x00 →
    (∀ k, k < 3 → (g.getD 1 0).getLsbD k = (f.getD 1 0).getLsbD k) → g.getD 5 0 = f.getD 5 0 →
    (∀ i, 7 ≤ i → i < f.length - 1 → g[i]? = f[i]?) →
    parse g = some (.ok { fr with version := g.getD 0 0 })

/-- R201, R203. PD.LC: too short is Err; otherwise msgType is p[1], its class, and the rest is data. -/
def Obligations.LinkControlDecodes : Prop :=
  ∀ p : List Byte,
    (p.length < 2 → decodeLc p = some .err) ∧
    (2 ≤ p.length → decodeLc p = some (.ok (.linkControl (p.getD 1 0) (lcClass (p.getD 1 0)) (p.drop 2))))

/-- R205. PD.RD: any payload, verbatim. -/
def Obligations.RawDataDecodesVerbatim : Prop :=
  ∀ p : List Byte, decodeRd p = some (.ok (.rawData p))

/-- R206 to R210. PD.GS: too short is Err; otherwise the fields, little-endian as numbers, the length unchecked, the rest data. -/
def Obligations.GenericServiceDecodes : Prop :=
  (∀ p : List Byte,
    (p.length < 9 → decodeGs p = some .err) ∧
    (9 ≤ p.length → ∃ sid aid len, decodeGs p =
        some (.ok (.genericService sid aid (p.getD 5 0) (gsClass (p.getD 5 0)) (p.getD 6 0) len (p.drop 9))) ∧
      sid.toNat = (p.getD 1 0).toNat + 256 * (p.getD 2 0).toNat ∧
      aid.toNat = (p.getD 3 0).toNat + 256 * (p.getD 4 0).toNat ∧
      len.toNat = (p.getD 7 0).toNat + 256 * (p.getD 8 0).toNat)) ∧
  le16 0x01 0x10 = 0x1001

/-- 44_payload_decode (R200, R201, R205, R206) and log 10. A PD operation completes on every payload, writes no state of the spec, and
hands its result back. The event that holds its result where `exec` is asked for it alone is the model's choice (log 10). -/
def Obligations.DecodersRunAloneComplete : Prop :=
  ∀ (p : List Byte) (s : State), s.Running →
    exec (.pdLc p) s = .next { s with events := s.events ++ [.pdReturn (
      if p.length < 2 then .err else .ok (.linkControl (p.getD 1 0) (lcClass (p.getD 1 0)) (p.drop 2)))] } ∧
    exec (.pdRd p) s = .next { s with events := s.events ++ [.pdReturn (.ok (.rawData p))] } ∧
    exec (.pdGs p) s = .next { s with events := s.events ++ [.pdReturn (
      if p.length < 9 then .err
      else .ok (.genericService (le16 (p.getD 1 0) (p.getD 2 0)) (le16 (p.getD 3 0) (p.getD 4 0)) (p.getD 5 0)
        (gsClass (p.getD 5 0)) (p.getD 6 0) (le16 (p.getD 7 0) (p.getD 8 0)) (p.drop 9)))] }

/-- R204, R211. The classes of message types, whatever the open codes are; an Unknown class is not an error, only a short payload is. -/
def Obligations.MessageTypesClassify : Prop :=
  lcClass Config.lcStatusCode = .status ∧ lcClass 0x02 = .profiles ∧ lcClass Config.lcBaudRateCode = .baudRate ∧
  (∀ t : Byte, t ≠ Config.lcStatusCode → t ≠ 0x02 → t ≠ Config.lcBaudRateCode → lcClass t = .unknown) ∧
  gsClass Config.gsReadCode = .read ∧ gsClass Config.gsWriteCode = .write ∧ gsClass Config.gsWriteReadCode = .writeRead ∧
  (∀ t : Byte, t ≠ Config.gsReadCode → t ≠ Config.gsWriteCode → t ≠ Config.gsWriteReadCode → gsClass t = .unknown) ∧
  (∀ p : List Byte, (decodeLc p = some .err ↔ p.length < 2) ∧ (decodeGs p = some .err ↔ p.length < 9))

/-- R220, R74. The result codes and the kinds of DF_OUT events. -/
def Obligations.ResultCodesAndEventKinds : Prop :=
  ∀ (fr : Frame) (f : List Byte),
    (ResEvent.ok fr).code = 0 ∧ ResEvent.framingError.code = 1 ∧ (ResEvent.tooShort f).code = 2 ∧
    (ResEvent.badChecksum f).code = 3 ∧ (ResEvent.invalidFlagCombination f).code = 4 ∧
    (ResEvent.unsupportedProfile f).code = 5 ∧ (ResEvent.payloadError f).code = 6 ∧
    DfEvent.cont.kind = 1 ∧ (DfEvent.emit f).kind = 2 ∧ DfEvent.resyncError.kind = 3

/-! ## Encodings -/

/-- R70, R71, R72. What every word of the three 10-bit ports means, by its eos, valid, cmd and byte fields. -/
def Obligations.PortWordsDecodeByField : Prop :=
  (∀ w : PortBits, decode (.dfIn w) =
    if w.getLsbD 9 = false ∧ w.getLsbD 8 = false then .ok .dfIdle
    else if w.getLsbD 9 = false then
      if w.extractLsb' 0 8 = 0x7E then .ok .dfDelim
      else if w.extractLsb' 0 8 = 0x7D then .ok .dfEsc
      else .ok (.dfLit (w.extractLsb' 0 8))
    else if w.getLsbD 8 = false then .ok .dfEos
    else .error .reservedWord) ∧
  (∀ w : PortBits, decode (.encIn w) =
    if w.extractLsb' 8 2 = 0 then .ok .encIdle
    else if w.extractLsb' 8 2 = 1 then .ok .encDelim
    else if w.extractLsb' 8 2 = 2 then .ok (.encData (w.extractLsb' 0 8))
    else .error .reservedWord) ∧
  (∀ w : PortBits, decode (.crcIn w) =
    if w.extractLsb' 8 2 = 0 then .ok .crcIdle
    else if w.extractLsb' 8 2 = 1 then .ok .crcInit
    else if w.extractLsb' 8 2 = 2 then .ok (.crcByte (w.extractLsb' 0 8))
    else .ok (.crcNib (w.extractLsb' 0 4)))

/-- 30_encoding section 3 and 95_test_vectors: words written out from the tables decode to their operations. -/
def Obligations.ListedWordsDecode : Prop :=
  decode (.dfIn 0b0101111110) = .ok .dfDelim ∧ decode (.dfIn 0b0101111101) = .ok .dfEsc ∧
  decode (.dfIn 0b0101000001) = .ok (.dfLit 0x41) ∧ decode (.dfIn 0b1000000000) = .ok .dfEos ∧
  decode (.encIn 0b1001111110) = .ok (.encData 0x7E) ∧ decode (.encIn 0b0100000000) = .ok .encDelim ∧
  decode (.crcIn 0b1100001010) = .ok (.crcNib 0xA) ∧ decode (.crcIn 0b1011100011) = .ok (.crcByte 0xE3) ∧
  decode (.fvIn true [0x01, 0x02]) = .ok (.fvParse [0x01, 0x02]) ∧
  decode (.dfIn 0b1100000000) = .error .reservedWord ∧ decode (.encIn 0b1100000000) = .error .reservedWord

/-- 30_encoding sections 3 and 5: decoding and encoding agree for every well-formed operation, at every operand value, and what
decodes is well formed. A PD operation is encoded as a profile byte and a payload, the others as a port word. -/
def Obligations.DecodeEncodeAgree : Prop :=
  (∀ i : Instr, i.wf = true → decodeWord (encode i) = some i) ∧
  (∀ (iw : InstrWord) (i : Instr), decodeWord iw = some i → i.wf = true) ∧
  (∀ (w : PortWord) (i : Instr), decodeWord (.port w) = some i ↔ decode w = .ok i)

/-! ## The step, faults, refusal, reset -/

/-- 00_scope R3, 10_state R30, and the model's queue of offers (logs 1 and 2). A step takes the next offer; a word that decodes to an
operation runs exactly that operation on the state without the offer. -/
def Obligations.StepRunsTheDecodedOperation : Prop :=
  ∀ (s : State) (w : PortWord) (i : Instr) (rest : List HostInput), s.inputs = .word w :: rest → decode w = .ok i →
    step s = exec i { s with inputs := rest }

/-- 30_encoding section 3 (R73) and 10_state section 5 (R30): FV_IN with req = 0 is no operation, and with nothing offered there is no step.
The queue of offers (log 1), the taking of such an offer (log 9) and the fault noInput (log 2) are the model's choices. -/
def Obligations.NoOperationAndNoOffer : Prop :=
  (∀ (s : State) (f : List Byte) (rest : List HostInput), s.Running → s.inputs = .word (.fvIn false f) :: rest →
    step s = .next { s with inputs := rest }) ∧
  (∀ s : State, s.Running → s.inputs = [] → step s = .fault .noInput)

/-- R36. The reset values. -/
def Obligations.ResetValues : Prop :=
  State.reset.dfEsc = false ∧ State.reset.dfSync = false ∧ State.reset.dfBuf = [] ∧ State.reset.dfHalted = false ∧
  State.reset.crcAcc = 0x00 ∧ State.reset.fault = ⟨false, false⟩ ∧ State.reset.refused = false

/-- R250 (its writes and "no event on any port"). RESET at any step, the block stuck or not: the history after it is at most a beginning
of the history before it. -/
def Obligations.ResetWritesEveryElement : Prop :=
  ∀ (s : State) (rest : List HostInput), s.inputs = .reset :: rest →
    ∃ t, step s = .next t ∧ t.dfEsc = false ∧ t.dfSync = false ∧ t.dfBuf = [] ∧ t.dfHalted = false ∧ t.crcAcc = 0x00 ∧
      t.fault = ⟨false, false⟩ ∧ t.refused = false ∧ t.events <+: s.events

/-- 60_exceptions section 2 (R231), and section 3 (R234) on the word offered with SRC_FAIL. SRC_FAIL raises SourceFailure and changes
nothing else, at any step: in a block that is already faulted, refused or halted too (log 8). The offers behind it, a word among them,
are still pending. That the raising step is a next state with the name in FAULT is the model's choice (log 4). -/
def Obligations.SrcFailRaisesSourceFailure : Prop :=
  ∀ (s : State) (rest : List HostInput), s.inputs = .srcFail :: rest →
    step s = .next { s with inputs := rest, fault := { s.fault with sourceFailure := true } }

/-- R232. While FAULT is non-empty no operation of any unit has a step; no step but RESET takes a name out of FAULT; and a run that
ends with a fault recorded does not end well. -/
def Obligations.FaultsAreSticky : Prop :=
  (∀ (s t : State) (i : Instr), s.fault ≠ ⟨false, false⟩ → exec i s ≠ .next t) ∧
  (∀ (s t : State), step s = .next t → (∀ rest, s.inputs ≠ .reset :: rest) →
    (s.fault.bufferOverflow = true → t.fault.bufferOverflow = true) ∧
    (s.fault.sourceFailure = true → t.fault.sourceFailure = true)) ∧
  (∀ s : State, s.fault ≠ ⟨false, false⟩ → ¬EndsWell s)

/-- 60_exceptions section 2 (R233), 10_state section 4 (R35). A reserved word sets REFUSED and changes nothing else; it stays set but for
RESET, and while it is set no operation has a step. That the refusing step is a next state (log 5) which consumes the word (log 18) is the
model's choice. (A reserved DF_IN word offered while DF is halted: `StuckBlockAnswersByName`.) -/
def Obligations.ReservedWordsAreRefused : Prop :=
  (∀ (s : State) (w : PortBits) (rest : List HostInput), s.Running → w.getLsbD 9 = true → w.getLsbD 8 = true →
    (s.dfHalted = false ∧ s.inputs = .word (.dfIn w) :: rest ∨ s.inputs = .word (.encIn w) :: rest) →
    step s = .next { s with inputs := rest, refused := true }) ∧
  (∀ (s t : State) (i : Instr), s.refused = true → exec i s ≠ .next t) ∧
  (∀ (s t : State), step s = .next t → (∀ rest, s.inputs ≠ .reset :: rest) → s.refused = true → t.refused = true)

/-- R25. DF.halted is 1 once DF has consumed DF.EOS; while it is 1 no DF operation has a step, and only RESET clears it. -/
def Obligations.HaltedDeframerHasNoStep : Prop :=
  (∀ s t : State, exec .dfEos s = .next t → t.dfHalted = true) ∧
  (∀ (s t : State) (i : Instr), s.dfHalted = true → unitOf i = .df → exec i s ≠ .next t) ∧
  (∀ (s t : State), step s = .next t → (∀ rest, s.inputs ≠ .reset :: rest) → s.dfHalted = true → t.dfHalted = true)

/-- The model's choice (logs 4 to 7), where the spec says that no step exists: a faulted block answers the fault that names its
faults, a refused one a refusal, a halted de-framer a fault, and a fault is looked at before a refusal. A reserved DF_IN word is
refused by a halted de-framer too. -/
def Obligations.StuckBlockAnswersByName : Prop :=
  (∀ (s : State) (i : Instr), s.fault ≠ ⟨false, false⟩ → exec i s = .fault (.blockFaulted s.fault)) ∧
  (∀ (s : State) (w : PortWord) (rest : List HostInput), s.fault ≠ ⟨false, false⟩ → s.inputs = .word w :: rest →
    step s = .fault (.blockFaulted s.fault)) ∧
  (∀ (s : State) (i : Instr), s.fault = ⟨false, false⟩ → s.refused = true → exec i s = .refused .blockRefused) ∧
  (∀ (s : State) (i : Instr), s.Running → s.dfHalted = true → unitOf i = .df → exec i s = .fault .dfHalted) ∧
  (∀ (s : State) (w : PortBits) (rest : List HostInput), s.Running → s.dfHalted = true → w.getLsbD 9 = true →
    w.getLsbD 8 = true → s.inputs = .word (.dfIn w) :: rest →
    step s = .next { s with inputs := rest, refused := true })

/-! ## Whole-machine rules -/

/-- 00_scope R2, 10_state R20 to R28, as frames over every operation: what each unit's operations leave unchanged. -/
def Obligations.UnitsWriteOnlyTheirOwnState : Prop :=
  ∀ (i : Instr) (s t : State), exec i s = .next t →
    s.Running ∧ t.inputs = s.inputs ∧ t.refused = s.refused ∧ (∃ es, t.events = s.events ++ es) ∧
    (unitOf i = .crc → t = { s with crcAcc := t.crcAcc }) ∧
    (unitOf i = .enc → t = { s with events := t.events } ∧ t.dfOut = s.dfOut ∧ t.resOut = s.resOut) ∧
    (unitOf i = .df → t.crcAcc = s.crcAcc ∧ t.encOut = s.encOut ∧ s.dfHalted = false) ∧
    (unitOf i = .fv → t = { s with events := t.events } ∧ t.dfOut = s.dfOut ∧ t.encOut = s.encOut) ∧
    (unitOf i = .pd → t = { s with events := t.events } ∧ t.dfOut = s.dfOut ∧ t.encOut = s.encOut ∧ t.resOut = s.resOut)

/-- 10_state R20 (the column "written by"), R21 to R23, 60_exceptions R230. Element by element, which operations write it: only DF.LIT
raises a fault, and then it writes nothing else; no operation writes REFUSED; only DF.EOS sets DF.halted; only CRC.INIT, CRC.NIB and
CRC.BYTE write the accumulator; only DF.ESC sets DF.esc, and DF.LIT or a renewal clears it; only DF.DELIM sets DF.sync, and only a renewal
clears it; only a renewal empties the buffer, and only DF.LIT makes it longer, by one byte. A renewal is by DF.DELIM on a non-empty
buffer, by DF.ESC with an escape pending, or by DF.EOS. -/
def Obligations.WritersOfEachElement : Prop :=
  ∀ (i : Instr) (s t : State), exec i s = .next t →
    (t.fault ≠ s.fault → (∃ b, i = .dfLit b) ∧ t = { s with fault := ⟨true, false⟩ }) ∧
    t.refused = s.refused ∧
    (t.dfHalted ≠ s.dfHalted → i = .dfEos ∧ t.dfHalted = true) ∧
    (t.crcAcc ≠ s.crcAcc → i = .crcInit ∨ (∃ b, i = .crcByte b) ∨ ∃ n, i = .crcNib n) ∧
    (s.dfEsc = false → t.dfEsc = true → i = .dfEsc) ∧
    (s.dfEsc = true → t.dfEsc = false → (∃ b, i = .dfLit b) ∨ Renews i s) ∧
    (s.dfSync = false → t.dfSync = true → i = .dfDelim) ∧
    (s.dfSync = true → t.dfSync = false → Renews i s) ∧
    (t.dfBuf ≠ s.dfBuf → (t.dfBuf = [] ∧ Renews i s) ∨ ∃ b v, i = .dfLit b ∧ s.dfSync = true ∧ t.dfBuf = s.dfBuf ++ [v]) ∧
    (Renews i s → FreshContext t)

/-- 00_scope R2. DF, ENC and CRC operations of different units commute: if either can go first, both orders complete, with the same
state and the same events on every port. -/
def Obligations.UnitsCommute : Prop :=
  ∀ (i j : Instr) (s a c : State), unitOf i ≠ unitOf j → unitOf i ≠ .fv → unitOf i ≠ .pd → unitOf j ≠ .fv → unitOf j ≠ .pd →
    exec i s = .next a → exec j s = .next c → a.Running → c.Running →
    ∃ b d, exec j a = .next b ∧ exec i c = .next d ∧ b = { d with events := b.events } ∧ b.dfOut = d.dfOut ∧
      b.encOut = d.encOut ∧ b.resOut = d.resOut

/-- 20_memory R43 and 43_frame_parser R171 (derived): no FrameRead is ever out of range, so no operation is refused for one. -/
def Obligations.FrameReadNeverOutOfRange : Prop :=
  (∀ f : List Byte, ∃ r, parse f = some r ∧ r ≠ .framingError) ∧
  (∀ p : List Byte, (∃ r, decodeLc p = some r) ∧ (∃ r, decodeRd p = some r) ∧ ∃ r, decodeGs p = some r) ∧
  (∀ (i : Instr) (s : State), exec i s ≠ .refused .frameReadOutOfRange)

/-- The model's choice (log 3): the history of output events is only written. A longer past changes no outcome of a step but the
past itself; a step that takes RESET, which begins a new history, is left out. -/
def Obligations.OutputHistoryIsWriteOnly : Prop :=
  ∀ (s : State) (past : List PortEvent), (∀ rest, s.inputs ≠ .reset :: rest) →
    (∀ t, step s = .next t → step { s with events := past ++ s.events } = .next { t with events := past ++ t.events }) ∧
    (∀ r, step s = .fault r → step { s with events := past ++ s.events } = .fault r) ∧
    (∀ r, step s = .refused r → step { s with events := past ++ s.events } = .refused r)

/-- 10_state R20, R29; 42_deframer R148. Every step keeps the invariant of the de-framer's context. -/
def Obligations.StepKeepsContextInvariant : Prop :=
  ∀ s t : State, ContextInv s → step s = .next t → ContextInv t

/-- 42_deframer R149, R154; 60_exceptions R222. Every step keeps the report invariant: no frame and no framing error that the
de-framer put out goes unreported, each report follows at once and is FV's result, and no emitted frame is empty. -/
def Obligations.StepKeepsReportInvariant : Prop :=
  ∀ s t : State, ReportInv s → step s = .next t → ReportInv t

/-- Both invariants hold at reset. -/
def Obligations.ResetMeetsTheInvariants : Prop :=
  ContextInv State.reset ∧ ReportInv State.reset

/-! ## The dispatch to the decoders, and the un-escape function -/

/-- 00_scope section 4 (R10) and 43_frame_parser (R177, R178). No port word is a PD operation; FV runs the decoder that the profile byte
selects, on the payload region, and its result decides FV's; and the PD operation of the table computes the same value. The event that
holds that value where `exec` is asked for it alone is the model's choice (log 10). -/
def Obligations.DecodersAreDispatchedByFv : Prop :=
  (∀ (w : PortWord) (i : Instr), decode w = .ok i → unitOf i ≠ .pd) ∧
  (∀ (f : List Byte), 8 ≤ f.length → compute f = 0x00 →
    ¬((f.getD 1 0).getLsbD 1 = true ∧ (f.getD 1 0).getLsbD 2 = true) →
    (decoderOf (f.getD 5 0) = none → parse f = some (.unsupportedProfile f)) ∧
    (∀ d, decoderOf (f.getD 5 0) = some d → ∃ r, runDecoder d ((f.drop 7).dropLast) = some r ∧
      parse f = some (match r with
        | .err => .payloadError f
        | .ok payload => .ok ⟨f.getD 0 0, (f.getD 1 0).getLsbD 0, (f.getD 1 0).getLsbD 1, (f.getD 1 0).getLsbD 2, f.getD 5 0,
            payload⟩))) ∧
  (∀ (d : PayloadDecoder) (p : List Byte) (s : State), s.Running → ∃ r, runDecoder d p = some r ∧
    exec (d.operation p) s = .next { s with events := s.events ++ [.pdReturn r] })

/-- R147. DF un-escapes by XOR with 0x20, the exact inverse of the encoder's transform. OR with 0x20 agrees with it on 0x5E and 0x5D and
differs exactly where bit 5 is 1, where OR gives `b` and XOR gives `b - 0x20`. -/
def Obligations.DfUnescapesByXor : Prop :=
  (∀ (b : Byte) (s : State), (Instr.dfLit b).wf = true → s.DfRunning → s.dfSync = true → s.dfEsc = true →
    FitsBuffer (s.dfBuf.length + 1) → ∃ t, exec (.dfLit b) s = .next t ∧ t.dfBuf = s.dfBuf ++ [unescape b]) ∧
  (∀ b : Byte, unescape b = b ^^^ 0x20 ∧ unescape (b ^^^ 0x20) = b) ∧
  unescape 0x5E = 0x5E ||| 0x20 ∧ unescape 0x5D = 0x5D ||| 0x20 ∧
  (∀ b : Byte, unescape b ≠ b ||| 0x20 ↔ b.getLsbD 5 = true) ∧
  (∀ b : Byte, b.getLsbD 5 = true → b ||| 0x20 = b ∧ unescape b = b - 0x20)
end

