-- ==== Sys2Proof/Laws/State.lean ====
section
/-! SUPPORT. What each update of the state does to each field, one lemma a field, and the lemmas of the fault set. -/

namespace Sys2Proof.Machine

@[simp] theorem State.out_dfEsc (s : State) (e : PortEvent) : (s.out e).dfEsc = s.dfEsc := rfl
@[simp] theorem State.out_dfSync (s : State) (e : PortEvent) : (s.out e).dfSync = s.dfSync := rfl
@[simp] theorem State.out_dfBuf (s : State) (e : PortEvent) : (s.out e).dfBuf = s.dfBuf := rfl
@[simp] theorem State.out_dfHalted (s : State) (e : PortEvent) : (s.out e).dfHalted = s.dfHalted := rfl
@[simp] theorem State.out_crcAcc (s : State) (e : PortEvent) : (s.out e).crcAcc = s.crcAcc := rfl
@[simp] theorem State.out_fault (s : State) (e : PortEvent) : (s.out e).fault = s.fault := rfl
@[simp] theorem State.out_refused (s : State) (e : PortEvent) : (s.out e).refused = s.refused := rfl
@[simp] theorem State.out_inputs (s : State) (e : PortEvent) : (s.out e).inputs = s.inputs := rfl
@[simp] theorem State.out_events (s : State) (e : PortEvent) : (s.out e).events = s.events ++ [e] := rfl

@[simp] theorem State.report_dfEsc (s : State) (r : ResEvent) : (s.report r).dfEsc = s.dfEsc := rfl
@[simp] theorem State.report_dfSync (s : State) (r : ResEvent) : (s.report r).dfSync = s.dfSync := rfl
@[simp] theorem State.report_dfBuf (s : State) (r : ResEvent) : (s.report r).dfBuf = s.dfBuf := rfl
@[simp] theorem State.report_dfHalted (s : State) (r : ResEvent) : (s.report r).dfHalted = s.dfHalted := rfl
@[simp] theorem State.report_crcAcc (s : State) (r : ResEvent) : (s.report r).crcAcc = s.crcAcc := rfl
@[simp] theorem State.report_fault (s : State) (r : ResEvent) : (s.report r).fault = s.fault := rfl
@[simp] theorem State.report_refused (s : State) (r : ResEvent) : (s.report r).refused = s.refused := rfl
@[simp] theorem State.report_inputs (s : State) (r : ResEvent) : (s.report r).inputs = s.inputs := rfl
@[simp] theorem State.report_events (s : State) (r : ResEvent) : (s.report r).events = s.events ++ [.resOut r] := rfl

@[simp] theorem State.renew_dfEsc (s : State) : (s.renew).dfEsc = false := rfl
@[simp] theorem State.renew_dfSync (s : State) : (s.renew).dfSync = false := rfl
@[simp] theorem State.renew_dfBuf (s : State) : (s.renew).dfBuf = [] := rfl
@[simp] theorem State.renew_dfHalted (s : State) : (s.renew).dfHalted = s.dfHalted := rfl
@[simp] theorem State.renew_crcAcc (s : State) : (s.renew).crcAcc = s.crcAcc := rfl
@[simp] theorem State.renew_fault (s : State) : (s.renew).fault = s.fault := rfl
@[simp] theorem State.renew_refused (s : State) : (s.renew).refused = s.refused := rfl
@[simp] theorem State.renew_inputs (s : State) : (s.renew).inputs = s.inputs := rfl
@[simp] theorem State.renew_events (s : State) : (s.renew).events = s.events := rfl

@[simp] theorem State.synchronize_dfEsc (s : State) : (s.synchronize).dfEsc = s.dfEsc := rfl
@[simp] theorem State.synchronize_dfSync (s : State) : (s.synchronize).dfSync = true := rfl
@[simp] theorem State.synchronize_dfBuf (s : State) : (s.synchronize).dfBuf = [] := rfl
@[simp] theorem State.synchronize_dfHalted (s : State) : (s.synchronize).dfHalted = s.dfHalted := rfl
@[simp] theorem State.synchronize_crcAcc (s : State) : (s.synchronize).crcAcc = s.crcAcc := rfl
@[simp] theorem State.synchronize_fault (s : State) : (s.synchronize).fault = s.fault := rfl
@[simp] theorem State.synchronize_refused (s : State) : (s.synchronize).refused = s.refused := rfl
@[simp] theorem State.synchronize_inputs (s : State) : (s.synchronize).inputs = s.inputs := rfl
@[simp] theorem State.synchronize_events (s : State) : (s.synchronize).events = s.events := rfl

@[simp] theorem State.setEsc_dfEsc (s : State) (v : Bool) : (s.setEsc v).dfEsc = v := rfl
@[simp] theorem State.setEsc_dfSync (s : State) (v : Bool) : (s.setEsc v).dfSync = s.dfSync := rfl
@[simp] theorem State.setEsc_dfBuf (s : State) (v : Bool) : (s.setEsc v).dfBuf = s.dfBuf := rfl
@[simp] theorem State.setEsc_dfHalted (s : State) (v : Bool) : (s.setEsc v).dfHalted = s.dfHalted := rfl
@[simp] theorem State.setEsc_crcAcc (s : State) (v : Bool) : (s.setEsc v).crcAcc = s.crcAcc := rfl
@[simp] theorem State.setEsc_fault (s : State) (v : Bool) : (s.setEsc v).fault = s.fault := rfl
@[simp] theorem State.setEsc_refused (s : State) (v : Bool) : (s.setEsc v).refused = s.refused := rfl
@[simp] theorem State.setEsc_inputs (s : State) (v : Bool) : (s.setEsc v).inputs = s.inputs := rfl
@[simp] theorem State.setEsc_events (s : State) (v : Bool) : (s.setEsc v).events = s.events := rfl

@[simp] theorem State.bufAppend_dfEsc (s : State) (v : Byte) : (s.bufAppend v).dfEsc = s.dfEsc := rfl
@[simp] theorem State.bufAppend_dfSync (s : State) (v : Byte) : (s.bufAppend v).dfSync = s.dfSync := rfl
@[simp] theorem State.bufAppend_dfBuf (s : State) (v : Byte) : (s.bufAppend v).dfBuf = s.dfBuf ++ [v] := rfl
@[simp] theorem State.bufAppend_dfHalted (s : State) (v : Byte) : (s.bufAppend v).dfHalted = s.dfHalted := rfl
@[simp] theorem State.bufAppend_crcAcc (s : State) (v : Byte) : (s.bufAppend v).crcAcc = s.crcAcc := rfl
@[simp] theorem State.bufAppend_fault (s : State) (v : Byte) : (s.bufAppend v).fault = s.fault := rfl
@[simp] theorem State.bufAppend_refused (s : State) (v : Byte) : (s.bufAppend v).refused = s.refused := rfl
@[simp] theorem State.bufAppend_inputs (s : State) (v : Byte) : (s.bufAppend v).inputs = s.inputs := rfl
@[simp] theorem State.bufAppend_events (s : State) (v : Byte) : (s.bufAppend v).events = s.events := rfl

@[simp] theorem State.halt_dfEsc (s : State) : (s.halt).dfEsc = s.dfEsc := rfl
@[simp] theorem State.halt_dfSync (s : State) : (s.halt).dfSync = s.dfSync := rfl
@[simp] theorem State.halt_dfBuf (s : State) : (s.halt).dfBuf = s.dfBuf := rfl
@[simp] theorem State.halt_dfHalted (s : State) : (s.halt).dfHalted = true := rfl
@[simp] theorem State.halt_crcAcc (s : State) : (s.halt).crcAcc = s.crcAcc := rfl
@[simp] theorem State.halt_fault (s : State) : (s.halt).fault = s.fault := rfl
@[simp] theorem State.halt_refused (s : State) : (s.halt).refused = s.refused := rfl
@[simp] theorem State.halt_inputs (s : State) : (s.halt).inputs = s.inputs := rfl
@[simp] theorem State.halt_events (s : State) : (s.halt).events = s.events := rfl

@[simp] theorem State.setAcc_dfEsc (s : State) (v : Byte) : (s.setAcc v).dfEsc = s.dfEsc := rfl
@[simp] theorem State.setAcc_dfSync (s : State) (v : Byte) : (s.setAcc v).dfSync = s.dfSync := rfl
@[simp] theorem State.setAcc_dfBuf (s : State) (v : Byte) : (s.setAcc v).dfBuf = s.dfBuf := rfl
@[simp] theorem State.setAcc_dfHalted (s : State) (v : Byte) : (s.setAcc v).dfHalted = s.dfHalted := rfl
@[simp] theorem State.setAcc_crcAcc (s : State) (v : Byte) : (s.setAcc v).crcAcc = v := rfl
@[simp] theorem State.setAcc_fault (s : State) (v : Byte) : (s.setAcc v).fault = s.fault := rfl
@[simp] theorem State.setAcc_refused (s : State) (v : Byte) : (s.setAcc v).refused = s.refused := rfl
@[simp] theorem State.setAcc_inputs (s : State) (v : Byte) : (s.setAcc v).inputs = s.inputs := rfl
@[simp] theorem State.setAcc_events (s : State) (v : Byte) : (s.setAcc v).events = s.events := rfl

@[simp] theorem State.raiseFault_dfEsc (s : State) (n : FaultName) : (s.raiseFault n).dfEsc = s.dfEsc := rfl
@[simp] theorem State.raiseFault_dfSync (s : State) (n : FaultName) : (s.raiseFault n).dfSync = s.dfSync := rfl
@[simp] theorem State.raiseFault_dfBuf (s : State) (n : FaultName) : (s.raiseFault n).dfBuf = s.dfBuf := rfl
@[simp] theorem State.raiseFault_dfHalted (s : State) (n : FaultName) : (s.raiseFault n).dfHalted = s.dfHalted := rfl
@[simp] theorem State.raiseFault_crcAcc (s : State) (n : FaultName) : (s.raiseFault n).crcAcc = s.crcAcc := rfl
@[simp] theorem State.raiseFault_fault (s : State) (n : FaultName) : (s.raiseFault n).fault = s.fault.insert n := rfl
@[simp] theorem State.raiseFault_refused (s : State) (n : FaultName) : (s.raiseFault n).refused = s.refused := rfl
@[simp] theorem State.raiseFault_inputs (s : State) (n : FaultName) : (s.raiseFault n).inputs = s.inputs := rfl
@[simp] theorem State.raiseFault_events (s : State) (n : FaultName) : (s.raiseFault n).events = s.events := rfl

@[simp] theorem State.refuse_dfEsc (s : State) : (s.refuse).dfEsc = s.dfEsc := rfl
@[simp] theorem State.refuse_dfSync (s : State) : (s.refuse).dfSync = s.dfSync := rfl
@[simp] theorem State.refuse_dfBuf (s : State) : (s.refuse).dfBuf = s.dfBuf := rfl
@[simp] theorem State.refuse_dfHalted (s : State) : (s.refuse).dfHalted = s.dfHalted := rfl
@[simp] theorem State.refuse_crcAcc (s : State) : (s.refuse).crcAcc = s.crcAcc := rfl
@[simp] theorem State.refuse_fault (s : State) : (s.refuse).fault = s.fault := rfl
@[simp] theorem State.refuse_refused (s : State) : (s.refuse).refused = true := rfl
@[simp] theorem State.refuse_inputs (s : State) : (s.refuse).inputs = s.inputs := rfl
@[simp] theorem State.refuse_events (s : State) : (s.refuse).events = s.events := rfl

@[simp] theorem State.withInputs_dfEsc (s : State) (l : List HostInput) : (s.withInputs l).dfEsc = s.dfEsc := rfl
@[simp] theorem State.withInputs_dfSync (s : State) (l : List HostInput) : (s.withInputs l).dfSync = s.dfSync := rfl
@[simp] theorem State.withInputs_dfBuf (s : State) (l : List HostInput) : (s.withInputs l).dfBuf = s.dfBuf := rfl
@[simp] theorem State.withInputs_dfHalted (s : State) (l : List HostInput) : (s.withInputs l).dfHalted = s.dfHalted := rfl
@[simp] theorem State.withInputs_crcAcc (s : State) (l : List HostInput) : (s.withInputs l).crcAcc = s.crcAcc := rfl
@[simp] theorem State.withInputs_fault (s : State) (l : List HostInput) : (s.withInputs l).fault = s.fault := rfl
@[simp] theorem State.withInputs_refused (s : State) (l : List HostInput) : (s.withInputs l).refused = s.refused := rfl
@[simp] theorem State.withInputs_inputs (s : State) (l : List HostInput) : (s.withInputs l).inputs = l := rfl
@[simp] theorem State.withInputs_events (s : State) (l : List HostInput) : (s.withInputs l).events = s.events := rfl

@[simp] theorem State.resetNow_dfEsc (s : State) : (s.resetNow).dfEsc = false := rfl
@[simp] theorem State.resetNow_dfSync (s : State) : (s.resetNow).dfSync = false := rfl
@[simp] theorem State.resetNow_dfBuf (s : State) : (s.resetNow).dfBuf = [] := rfl
@[simp] theorem State.resetNow_dfHalted (s : State) : (s.resetNow).dfHalted = false := rfl
@[simp] theorem State.resetNow_crcAcc (s : State) : (s.resetNow).crcAcc = 0x00 := rfl
@[simp] theorem State.resetNow_fault (s : State) : (s.resetNow).fault = FaultSet.empty := rfl
@[simp] theorem State.resetNow_refused (s : State) : (s.resetNow).refused = false := rfl
@[simp] theorem State.resetNow_inputs (s : State) : (s.resetNow).inputs = s.inputs := rfl
@[simp] theorem State.resetNow_events (s : State) : (s.resetNow).events = [] := rfl

@[simp] theorem FaultSet.insert_ne_empty (f : FaultSet) (n : FaultName) : f.insert n ≠ FaultSet.empty := by
  cases n <;> simp [FaultSet.insert, FaultSet.empty]

/-- Raising a fault takes no name out of FAULT (10_state R27). -/
theorem FaultSet.insert_keeps (f : FaultSet) (n : FaultName) :
    (f.bufferOverflow = true → (f.insert n).bufferOverflow = true) ∧
      (f.sourceFailure = true → (f.insert n).sourceFailure = true) := by
  cases n <;> simp [FaultSet.insert]

/-- DF.LIT's writes, field by field (42_deframer R145). -/
theorem State.acceptLiteral_eq (s : State) (b : Byte) :
    s.acceptLiteral b =
      { s with dfEsc := false, dfBuf := if s.dfSync then s.dfBuf ++ [s.literalValue b] else s.dfBuf } := by
  unfold State.acceptLiteral
  split <;> simp_all [State.setEsc, State.bufAppend]

end Sys2Proof.Machine
end

