-- ==== Sys2Proof/Laws/Ops.lean ====
section
/-! SUPPORT. One specification lemma per shared operation: when an operation has a step, what it can then answer, and the output
histories. -/

namespace Sys2Proof.Machine

/-! ### When an operation has a step -/

theorem State.whenRunning_of_running {s : State} (h : s.Running) (o : StepOutcome) : s.whenRunning o = o := by
  simp [State.whenRunning, h.1, h.2]

theorem State.whenDfRunning_of_running {s : State} (h : s.DfRunning) (o : StepOutcome) : s.whenDfRunning o = o := by
  simp [State.whenDfRunning, State.whenRunning_of_running h.1, h.2]

theorem State.whenRunning_of_fault {s : State} (h : s.fault ≠ FaultSet.empty) (o : StepOutcome) :
    s.whenRunning o = .fault (.blockFaulted s.fault) := by
  simp [State.whenRunning, h]

theorem State.whenRunning_of_refused {s : State} (hf : s.fault = FaultSet.empty) (h : s.refused = true) (o : StepOutcome) :
    s.whenRunning o = .refused .blockRefused := by
  simp [State.whenRunning, hf, h]

/-- A guarded operation answers a next state exactly where the block runs and the operation itself answers it. -/
theorem State.whenRunning_next_iff {s t : State} {o : StepOutcome} :
    s.whenRunning o = .next t ↔ s.Running ∧ o = .next t := by
  unfold State.whenRunning State.Running
  split_ifs <;> simp_all

theorem State.whenDfRunning_next_iff {s t : State} {o : StepOutcome} :
    s.whenDfRunning o = .next t ↔ s.DfRunning ∧ o = .next t := by
  unfold State.whenDfRunning State.DfRunning
  rw [State.whenRunning_next_iff]
  split_ifs <;> simp_all

/-! ### Reporting -/

/-- Validation, where it goes on, adds one result and changes nothing else (43_frame_parser R182). -/
theorem State.validate_next_iff {s t : State} {f : List Byte} :
    s.validate f = .next t ↔ ∃ r, parse f = some r ∧ t = s.report r := by
  cases h : parse f <;> simp [State.validate, h, eq_comm (a := t)]

/-- A PD operation, where it goes on, adds its result and changes nothing else. -/
theorem State.handBack_next_iff {s t : State} {r : Option PdResult} :
    s.handBack r = .next t ↔ ∃ d, r = some d ∧ t = s.out (.pdReturn d) := by
  cases r <;> simp [State.handBack, eq_comm (a := t)]

/-- Everything that placing an event on DF_OUT can do (42_deframer R149). -/
theorem State.dfPut_next_iff {s t : State} {e : DfEvent} :
    s.dfPut e = .next t ↔
      (e = .cont ∧ t = s.out (.dfOut e)) ∨
      (∃ f r, e = .emit f ∧ parse f = some r ∧ t = (s.out (.dfOut e)).report r) ∨
      (e = .resyncError ∧ t = (s.out (.dfOut e)).report .framingError) := by
  cases e <;> simp [State.dfPut, State.pipeline, State.validate_next_iff, eq_comm (a := t)]

/-- A renewed context is fresh (42_deframer R141). -/
theorem State.renew_fresh (s : State) : FreshContext s.renew := ⟨rfl, rfl, rfl⟩

/-- An event on DF_OUT, and its report, touch the history only. -/
theorem State.dfPut_frame {s t : State} {e : DfEvent} (h : s.dfPut e = .next t) : t = { s with events := t.events } := by
  rcases State.dfPut_next_iff.mp h with ⟨_, rfl⟩ | ⟨_, _, _, _, rfl⟩ | ⟨_, rfl⟩ <;> rfl

/-! ### Histories -/

@[simp] theorem dfOutOf_append (a b : List PortEvent) : dfOutOf (a ++ b) = dfOutOf a ++ dfOutOf b := by
  induction a with
  | nil => rfl
  | cons e es ih => cases e <;> simp [dfOutOf, ih]

@[simp] theorem encOutOf_append (a b : List PortEvent) : encOutOf (a ++ b) = encOutOf a ++ encOutOf b := by
  induction a with
  | nil => rfl
  | cons e es ih => cases e <;> simp [encOutOf, ih]

@[simp] theorem resOutOf_append (a b : List PortEvent) : resOutOf (a ++ b) = resOutOf a ++ resOutOf b := by
  induction a with
  | nil => rfl
  | cons e es ih => cases e <;> simp [resOutOf, ih]

/-! ### The checksum and the buffer's capacity -/

theorem crcFold_append (c : Byte) (a b : List Byte) : crcFold c (a ++ b) = crcFold (crcFold c a) b := by
  simp [crcFold, List.foldl_append]

theorem crcFold_cons (c b : Byte) (s : List Byte) : crcFold c (b :: s) = crcFold (crcByteStep c b) s := rfl

/-- A buffer shorter than the least capacity is never full (00_scope R4). -/
theorem fullAt_bufCap_of_lt {n : Nat} (h : n < Config.minFrameLen) : fullAt Config.bufCap n = false := by
  unfold fullAt Config.bufCap
  cases Config.bufCapExtra with
  | none => rfl
  | some k => simp only [Option.map_some, decide_eq_false_iff_not]; omega

/-- Up to the least capacity, everything fits (00_scope R4). -/
theorem fitsBuffer_of_le {n : Nat} (h : n ≤ Config.minFrameLen) : FitsBuffer n := by
  intro c hc
  unfold Config.bufCap at hc
  cases hx : Config.bufCapExtra with
  | none => simp [hx] at hc
  | some k => simp [hx] at hc; omega

/-- There is room for one more byte exactly where the buffer is not full. -/
theorem fullAt_bufCap_eq_false_iff {n : Nat} : fullAt Config.bufCap n = false ↔ FitsBuffer (n + 1) := by
  unfold fullAt FitsBuffer
  cases Config.bufCap with
  | none => simp
  | some c => simp

end Sys2Proof.Machine
end

