-- ==== Sys2Proof/Laws/PerInstr.lean ====
section
/-! SUPPORT. Per operation: the word that `encode` writes is a word of the operation's own row of the opcode table, on the row's
port (the PROFILE rows: at the row's profile byte), with the operand in the row's field. -/

namespace Sys2Proof.Laws.TableRow

/-- The word's port, its fixed bits by the row's `mask` and `match`, and its operand field. -/
def Statement : Instr → Prop
  | .crcIdle => ∃ w, encode .crcIdle = .port (.crcIn w) ∧ w &&& 0x300 = 0x000
  | .crcInit => ∃ w, encode .crcInit = .port (.crcIn w) ∧ w &&& 0x300 = 0x100
  | .crcByte b => ∃ w, encode (.crcByte b) = .port (.crcIn w) ∧ w &&& 0x300 = 0x200 ∧ byteField w = b
  | .crcNib n => ∃ w, encode (.crcNib n) = .port (.crcIn w) ∧ w &&& 0x300 = 0x300 ∧ nibbleField w = n
  | .encIdle => ∃ w, encode .encIdle = .port (.encIn w) ∧ w &&& 0x300 = 0x000
  | .encDelim => ∃ w, encode .encDelim = .port (.encIn w) ∧ w &&& 0x300 = 0x100
  | .encData b => ∃ w, encode (.encData b) = .port (.encIn w) ∧ w &&& 0x300 = 0x200 ∧ byteField w = b
  | .dfIdle => ∃ w, encode .dfIdle = .port (.dfIn w) ∧ w &&& 0x300 = 0x000
  | .dfDelim => encode .dfDelim = .port (.dfIn 0x17E)
  | .dfEsc => encode .dfEsc = .port (.dfIn 0x17D)
  | .dfLit b => ∃ w, encode (.dfLit b) = .port (.dfIn w) ∧ w &&& 0x300 = 0x100 ∧ byteField w = b ∧
      ((Instr.dfLit b).wf = true → w ≠ 0x17E ∧ w ≠ 0x17D)
  | .dfEos => ∃ w, encode .dfEos = .port (.dfIn w) ∧ w &&& 0x300 = 0x200
  | .fvParse f => encode (.fvParse f) = .port (.fvIn true f)
  | .pdLc p => encode (.pdLc p) = .profile 0x01 p
  | .pdRd p => encode (.pdRd p) = .profile 0x02 p
  | .pdGs p => encode (.pdGs p) = .profile 0x03 p

theorem byte_word : ∀ b : Byte, (0x200 ||| b.setWidth 10 : PortBits) &&& 0x300 = 0x200 ∧
    byteField (0x200 ||| b.setWidth 10) = b := by decide

theorem nibble_word : ∀ n : Nibble, (0x300 ||| n.setWidth 10 : PortBits) &&& 0x300 = 0x300 ∧
    nibbleField (0x300 ||| n.setWidth 10) = n := by decide

theorem literal_word : ∀ b : Byte, (0x100 ||| b.setWidth 10 : PortBits) &&& 0x300 = 0x100 ∧
    byteField (0x100 ||| b.setWidth 10) = b := by decide

theorem crcIdle : Statement .crcIdle := ⟨_, rfl, rfl⟩
theorem crcInit : Statement .crcInit := ⟨_, rfl, rfl⟩
theorem crcByte (b : Byte) : Statement (.crcByte b) := ⟨_, rfl, byte_word b⟩
theorem crcNib (n : Nibble) : Statement (.crcNib n) := ⟨_, rfl, nibble_word n⟩
theorem encIdle : Statement .encIdle := ⟨_, rfl, rfl⟩
theorem encDelim : Statement .encDelim := ⟨_, rfl, rfl⟩
theorem encData (b : Byte) : Statement (.encData b) := ⟨_, rfl, byte_word b⟩
theorem dfIdle : Statement .dfIdle := ⟨_, rfl, rfl⟩
theorem dfDelim : Statement .dfDelim := rfl
theorem dfEsc : Statement .dfEsc := rfl
theorem dfLit (b : Byte) : Statement (.dfLit b) := by
  refine ⟨_, rfl, (literal_word b).1, (literal_word b).2, fun h => ⟨fun e => ?_, fun e => ?_⟩⟩ <;>
    · have hb := (literal_word b).2
      rw [e] at hb
      subst hb
      exact absurd h (by decide)
theorem dfEos : Statement .dfEos := ⟨_, rfl, rfl⟩
theorem fvParse (f : List Byte) : Statement (.fvParse f) := rfl
theorem pdLc (p : List Byte) : Statement (.pdLc p) := rfl
theorem pdRd (p : List Byte) : Statement (.pdRd p) := rfl
theorem pdGs (p : List Byte) : Statement (.pdGs p) := rfl

end Sys2Proof.Laws.TableRow
end

