-- ==== Sys2Proof/Laws/Step.lean ====
section
/-! SUPPORT. Everything a step can do where it goes on, and runs of several steps. -/

namespace Sys2Proof.Machine

/-- A word that is no operation, where the block goes on, sets REFUSED or does nothing (60_exceptions R233, 30_encoding R73). -/
theorem State.takeNonOperation_next_iff {s t : State} {e : DecodeError} :
    s.takeNonOperation e = .next t ↔
      s.Running ∧ ((e = .reservedWord ∧ t = s.refuse) ∨ (e = .noRequest ∧ t = s)) := by
  cases e <;> simp [State.takeNonOperation, State.whenRunning_next_iff, eq_comm (a := t)]

/-- Everything a step that goes on can have done: RESET, SRC_FAIL, a decoded operation, or a word that is none. -/
theorem step_next_cases {s t : State} (h : step s = .next t) :
    (∃ rest, s.inputs = .reset :: rest ∧ t = (s.withInputs rest).resetNow) ∨
    (∃ rest, s.inputs = .srcFail :: rest ∧ t = (s.withInputs rest).raiseFault .sourceFailure) ∨
    (∃ w i rest, s.inputs = .word w :: rest ∧ decode w = .ok i ∧ exec i (s.withInputs rest) = .next t) ∨
    (∃ w e rest, s.inputs = .word w :: rest ∧ decode w = .error e ∧ s.Running ∧
      ((e = .reservedWord ∧ t = (s.withInputs rest).refuse) ∨ (e = .noRequest ∧ t = s.withInputs rest))) := by
  unfold step at h
  split at h
  case h_1 => simp [State.takeNothing, State.whenRunning_next_iff] at h
  case h_2 rest hi =>
    simp only [State.takeReset, Host.Outcome.next.injEq] at h
    exact .inl ⟨rest, hi, h.symm⟩
  case h_3 rest hi =>
    simp only [State.takeSrcFail, Host.Outcome.next.injEq] at h
    exact .inr (.inl ⟨rest, hi, h.symm⟩)
  case h_4 w rest hi =>
    split at h
    case h_1 i hd => exact .inr (.inr (.inl ⟨w, i, rest, hi, hd, h⟩))
    case h_2 e hd =>
      obtain ⟨hr, ht⟩ := State.takeNonOperation_next_iff.mp h
      exact .inr (.inr (.inr ⟨w, e, rest, hi, hd, hr, ht⟩))

theorem runSteps_zero (s : State) : runSteps 0 s = .next s := rfl

/-- A run goes on from the state its first step answers. -/
theorem runSteps_succ_of_next {s t : State} (h : step s = .next t) (n : Nat) : runSteps (n + 1) s = runSteps n t := by
  have hc : Host.Core.step core s = .next t := h
  simp only [runSteps, Host.Core.run, hc]
  rfl

/-- A run of `m + n` steps goes on from where the first `m` steps lead. -/
theorem runSteps_add_of_next {m : Nat} {s t : State} (h : runSteps m s = .next t) (n : Nat) :
    runSteps (m + n) s = runSteps n t := by
  induction m generalizing s with
  | zero =>
    rw [runSteps_zero, Host.Outcome.next.injEq] at h
    rw [Nat.zero_add, h]
  | succ m ih =>
    cases hs : step s with
    | next u =>
      rw [runSteps_succ_of_next hs] at h
      rw [Nat.add_right_comm, runSteps_succ_of_next hs]
      exact ih h
    | fault r =>
      have hc : Host.Core.step core s = .fault r := hs
      simp [runSteps, Host.Core.run, hc] at h
    | refused r =>
      have hc : Host.Core.step core s = .refused r := hs
      simp [runSteps, Host.Core.run, hc] at h

end Sys2Proof.Machine
end

