-- ==== Sys2Proof/Tests/Slice0.lean ====
section
/-! SUPPORT. Tests. Expected values are those of 95_test_vectors (the vector's name stands before a test) or of the rule named there.
The last section shows that the hypotheses of the statements can be met. -/

namespace Sys2Proof.Tests

open Sys2Proof.Machine

/-! ### Helpers -/

/-- The next state, if there is one. -/
def after : StepOutcome → Option State
  | .next t => some t
  | _ => none

/-- The fault, if there is one. -/
def faultOf : StepOutcome → Option Fault
  | .fault f => some f
  | _ => none

/-- The refusal, if there is one. -/
def refusalOf : StepOutcome → Option Refusal
  | .refused r => some r
  | _ => none

/-- What a decoding gives, if it is an operation. -/
def opOf : Except DecodeError Instr → Option Instr
  | .ok i => some i
  | .error _ => none

/-- A de-framer's context on a machine otherwise at reset. -/
def dfState (esc sync : Bool) (buf : List Byte) : State := { State.reset with dfEsc := esc, dfSync := sync, dfBuf := buf }

/-- An accumulator on a machine otherwise at reset. -/
def accState (v : Byte) : State := { State.reset with crcAcc := v }

/-- Offers on a machine otherwise at reset. -/
def offered (l : List HostInput) : State := { State.reset with inputs := l }

/-- The context a step leaves, and its events. -/
def context (o : StepOutcome) : Option (Bool × Bool × List Byte × List PortEvent) :=
  (after o).map (fun t => (t.dfEsc, t.dfSync, t.dfBuf, t.events))

/-- The accumulator a step leaves. -/
def accOf (o : StepOutcome) : Option Byte := (after o).map (fun t => t.crcAcc)

/-- The events a step leaves. -/
def eventsOf (o : StepOutcome) : Option (List PortEvent) := (after o).map (fun t => t.events)

/-! Frames of 95_test_vectors section 2.4. -/

def frameA : List Byte := [0x01, 0x02, 0x00, 0x00, 0x00, 0x01, 0x00, 0x01, 0x02, 0xE3]
def frameB : List Byte :=
  [0x01, 0x03, 0x00, 0x00, 0x00, 0x03, 0x00, 0x01, 0x01, 0x10, 0x02, 0x00, 0x01, 0x00, 0x00, 0x00, 0x87]
def frameC : List Byte := [0x01, 0x00, 0x00, 0x00, 0x00, 0x02, 0x00, 0x7E, 0x7D, 0x20, 0xE5]
def frameD : List Byte := [0x01, 0x06, 0x00, 0x00, 0x00, 0x01, 0x00, 0x01, 0x02, 0x5C]
def frameE : List Byte := [0x01, 0x00, 0x00, 0x00, 0x00, 0x04, 0x00, 0x01, 0x02, 0x14]
def frameF : List Byte := [0x01, 0x00, 0x00, 0x00, 0x00, 0x01, 0x00, 0x01, 0x45]
def frameG : List Byte :=
  [0x01, 0x00, 0x00, 0x00, 0x00, 0x03, 0x00, 0x01, 0x02, 0x03, 0x04, 0x05, 0x06, 0x07, 0x08, 0x06]
def frameH : List Byte := [0x01, 0x00, 0x00, 0x00, 0x00, 0x02, 0x0A]
def frameI : List Byte := frameA.set 8 0x03
def frameJ : List Byte := [0x01, 0x04, 0x00, 0x00, 0x00, 0x02, 0x00, 0x76]
def frameK : List Byte := [0x01, 0xF9, 0xFF, 0xFF, 0xFF, 0x01, 0xAA, 0x01, 0x02, 0x8B]
def frameS : List Byte := [0x01, 0x06, 0x00, 0x00, 0x00, 0x09, 0x00, 0x4F]

/-! ### Well-formedness -/

/-- R145: 0x7E is no literal. -/
theorem test_wf_refuses_delim_literal : (Instr.dfLit 0x7E).wf = false := by decide

/-- R145: 0x7D is no literal. -/
theorem test_wf_refuses_esc_literal : (Instr.dfLit 0x7D).wf = false := by decide

/-- R60: the 254 other bytes are. -/
theorem test_wf_literals : ∀ b : Byte, (Instr.dfLit b).wf = true ∨ b = 0x7E ∨ b = 0x7D := by decide

/-! ### Decoding: words written out bit by bit from R70 to R73 -/

/-- R72: cmd 00, 01, 10, 11. -/
theorem test_decode_crc :
    opOf (decode (.crcIn 0b0000000000)) = some .crcIdle ∧ opOf (decode (.crcIn 0b0100000000)) = some .crcInit ∧
    opOf (decode (.crcIn 0b1000010000)) = some (.crcByte 0x10) ∧
    opOf (decode (.crcIn 0b1111110011)) = some (.crcNib 0x3) := by decide

/-- V-ENC-01, 02, 04, 10. -/
theorem test_decode_enc :
    opOf (decode (.encIn 0b0000000000)) = some .encIdle ∧ opOf (decode (.encIn 0b0100000000)) = some .encDelim ∧
    opOf (decode (.encIn 0b1001111110)) = some (.encData 0x7E) ∧ opOf (decode (.encIn 0b1100000000)) = none := by decide

/-- V-DF-01, 02, 03, 16, 17, 19. -/
theorem test_decode_df :
    opOf (decode (.dfIn 0b0101111110)) = some .dfDelim ∧ opOf (decode (.dfIn 0b0101111101)) = some .dfEsc ∧
    opOf (decode (.dfIn 0b0101000001)) = some (.dfLit 0x41) ∧ opOf (decode (.dfIn 0b1000000000)) = some .dfEos ∧
    opOf (decode (.dfIn 0b0000000000)) = some .dfIdle ∧ opOf (decode (.dfIn 0b1100000000)) = none := by decide

/-- R70, R79: DF_IN[7:0] is ignored without valid, 0x7E and 0x7D among the ignored values. -/
theorem test_decode_df_ignored_byte :
    opOf (decode (.dfIn 0x07E)) = some .dfIdle ∧ opOf (decode (.dfIn 0x27D)) = some .dfEos := by decide

/-- R73, and the PROFILE keys of R177. -/
theorem test_decode_fv_and_pd :
    opOf (decode (.fvIn true [0x01])) = some (.fvParse [0x01]) ∧ opOf (decode (.fvIn false [0x01])) = none ∧
    decodeWord (.profile 0x01 []) = some (.pdLc []) ∧ decodeWord (.profile 0x02 []) = some (.pdRd []) ∧
    decodeWord (.profile 0x03 []) = some (.pdGs []) ∧ decodeWord (.profile 0x00 []) = none := by decide

/-- The bare words of the table, as log 14 places them. -/
theorem test_table_words :
    decodeTableWord 10 0x17E = some .dfDelim ∧ decodeTableWord 10 0x200 = some .dfEos ∧
    decodeTableWord 10 0x300 = some (.crcNib 0x0) ∧ decodeTableWord 1 0x1 = some (.fvParse []) ∧
    decodeTableWord 8 0x02 = some (.pdRd []) ∧ decodeTableWord 8 0x03 = some (.pdGs []) := by decide

/-- A placed word runs as the next step. -/
theorem test_fetch_word_runs :
    context (step (State.reset.withFetchWord 10 0x17E)) = some (false, true, [], [.dfOut .cont]) := by decide

/-- R177, R205: a placed PROFILE word runs its decoder by way of FV. -/
theorem test_fetch_profile_word :
    eventsOf (step (State.reset.withFetchWord 8 0x02)) =
      some [.resOut (.ok ⟨0x00, false, false, false, 0x02, .rawData []⟩)] := by decide +kernel

/-! ### The checksum unit -/

/-- R102's example. -/
theorem test_crc_idle : accOf (exec .crcIdle (accState 0x5A)) = some 0x5A := by decide

/-- R103's example. -/
theorem test_crc_init : accOf (exec .crcInit (accState 0xE3)) = some 0x00 := by decide

/-- V-CRC-06, V-CRC-10. -/
theorem test_crc_nib :
    accOf (exec (.crcNib 0x5) (accState 0xA5)) = some 0xCA ∧ accOf (exec (.crcNib 0x3) (accState 0x0E)) = some 0x91 := by decide

/-- R105's example, and the step from 2F to B7 of section 2.1. -/
theorem test_crc_byte :
    accOf (exec (.crcByte 0x10) (accState 0x00)) = some 0xAE ∧
    accOf (exec (.crcByte 0x02) (accState 0x2F)) = some 0xB7 := by decide

/-- V-CRC-14, V-CRC-17, V-CRC-18, V-CRC-20. -/
theorem test_compute :
    compute [0x31, 0x32, 0x33, 0x34, 0x35, 0x36, 0x37, 0x38, 0x39] = 0x3E ∧ compute [0xFF, 0xFF] = 0xFA ∧
    compute frameA.dropLast = 0xE3 ∧ compute [0x01, 0x00, 0x00, 0x00, 0x00, 0x02, 0x00, 0x65] = 0x7E := by decide +kernel

/-! ### The encoder -/

/-- V-ENC-01, V-ENC-02. -/
theorem test_enc_idle_delim :
    eventsOf (exec .encIdle State.reset) = some [.encOut []] ∧
    eventsOf (exec .encDelim State.reset) = some [.encOut [0x7E]] := by decide

/-- V-ENC-04, V-ENC-05, V-ENC-06. -/
theorem test_enc_data :
    eventsOf (exec (.encData 0x7E) State.reset) = some [.encOut [0x7D, 0x5E]] ∧
    eventsOf (exec (.encData 0x7D) State.reset) = some [.encOut [0x7D, 0x5D]] ∧
    eventsOf (exec (.encData 0x5E) State.reset) = some [.encOut [0x5E]] := by decide

/-- V-ENC-18. -/
theorem test_encode_frameC :
    wireEncode frameC =
      [0x7E, 0x01, 0x00, 0x00, 0x00, 0x00, 0x02, 0x00, 0x7D, 0x5E, 0x7D, 0x5D, 0x20, 0xE5, 0x7E] := by decide

/-! ### The de-framer -/

/-- V-DF-17. -/
theorem test_df_idle : context (exec .dfIdle (dfState true true [0x01])) = some (true, true, [0x01], []) := by decide

/-- V-DF-04: the escape is kept. -/
theorem test_df_delim_keeps_escape :
    context (exec .dfDelim (dfState true false [])) = some (true, true, [], [.dfOut .cont]) := by decide

/-- V-DF-15: the escape is lost. -/
theorem test_df_delim_emits :
    context (exec .dfDelim (dfState true true [0x01])) =
      some (false, false, [], [.dfOut (.emit [0x01]), .resOut (.tooShort [0x01])]) := by decide

/-- V-DF-02. -/
theorem test_df_esc_pends : context (exec .dfEsc State.reset) = some (true, false, [], [.dfOut .cont]) := by decide

/-- V-DF-14. -/
theorem test_df_esc_resyncs :
    context (exec .dfEsc (dfState true true [0x01])) =
      some (false, false, [], [.dfOut .resyncError, .resOut .framingError]) := by decide

/-- V-DF-11: XOR, not OR. -/
theorem test_df_lit_unescapes :
    context (dfLitAt (some 8) 0x61 (dfState true true [])) = some (false, true, [0x41], [.dfOut .cont]) := by decide

/-- V-DF-06: noise consumes the escape, in the block itself. -/
theorem test_df_lit_noise :
    context (exec (.dfLit 0x5E) (dfState true false [])) = some (false, false, [], [.dfOut .cont]) := by decide

/-- V-DF-07, in the block itself, whatever BUF_CAP is. -/
theorem test_df_lit_appends :
    exec (.dfLit 0x41) (dfState false true []) =
      .next { dfState false true [0x41] with events := [.dfOut .cont] } := by
  show dfLitAt Config.bufCap 0x41 (dfState false true []) = _
  rw [dfLitAt, show (dfState false true []).dfBuf.length = 0 from rfl, fullAt_bufCap_of_lt (by decide)]
  rfl

/-- V-DF-21 with BUF_CAP = 8: the fault, and nothing else. -/
theorem test_df_lit_overflows :
    after (dfLitAt (some 8) 0x5E (dfState true true [0, 1, 2, 3, 4, 5, 6, 7])) =
      some { dfState true true [0, 1, 2, 3, 4, 5, 6, 7] with fault := ⟨true, false⟩ } := by decide

/-- V-DF-16. -/
theorem test_df_eos :
    after (exec .dfEos (dfState false true [0x01])) = some { State.reset with dfHalted := true } := by decide

/-- V-DF-18. -/
theorem test_df_halted :
    faultOf (exec (.dfLit 0x41) { State.reset with dfHalted := true }) = some .dfHalted := by decide

/-! ### The frame validator -/

/-- V-FV-01. -/
theorem test_fv_frameA :
    eventsOf (exec (.fvParse frameA) State.reset) =
      some [.resOut (.ok ⟨0x01, false, true, false, 0x01, .linkControl 0x02 .profiles []⟩)] := by decide +kernel

/-- V-FV-03, V-FV-10. -/
theorem test_fv_raw :
    parse frameC = some (.ok ⟨0x01, false, false, false, 0x02, .rawData [0x7E, 0x7D, 0x20]⟩) ∧
    parse frameJ = some (.ok ⟨0x01, false, false, true, 0x02, .rawData []⟩) := by decide +kernel

/-- V-FV-02. -/
theorem test_fv_frameB :
    parse frameB =
      some (.ok ⟨0x01, true, true, false, 0x03, .genericService 0x1001 0x0002 0x01 (gsClass 0x01) 0x00 0x0000 []⟩) := by
  have hc : compute frameB = 0x00 := by decide +kernel
  rw [parse, if_neg (by decide), if_neg (not_not_intro hc)]
  rfl

/-- V-FV-11: reserved bits and bytes are ignored. -/
theorem test_fv_frameK :
    parse frameK = some (.ok ⟨0x01, true, false, false, 0x01, .linkControl 0x02 .profiles []⟩) := by decide +kernel

/-- V-FV-04 to V-FV-09, V-FV-19, V-FV-20. -/
theorem test_fv_rejections :
    parse frameD = some (.invalidFlagCombination frameD) ∧ parse frameE = some (.unsupportedProfile frameE) ∧
    parse frameF = some (.payloadError frameF) ∧ parse frameG = some (.payloadError frameG) ∧
    parse frameH = some (.tooShort frameH) ∧ parse frameI = some (.badChecksum frameI) ∧
    parse frameS = some (.invalidFlagCombination frameS) ∧ parse [] = some (.tooShort []) := by decide +kernel

/-! ### The payload decoders -/

/-- V-PD-02, V-PD-03. -/
theorem test_pd_lc :
    decodeLc [0x01] = some .err ∧ decodeLc [0x01, 0x02] = some (.ok (.linkControl 0x02 .profiles [])) := by decide

/-- V-PD-06, by the operation itself. -/
theorem test_pd_rd :
    eventsOf (exec (.pdRd [0x7E, 0x7D, 0x20]) State.reset) =
      some [.pdReturn (.ok (.rawData [0x7E, 0x7D, 0x20]))] := by decide

/-- V-PD-07, V-PD-09. -/
theorem test_pd_gs :
    decodeGs [0x01, 0x01, 0x10, 0x02, 0x00, 0x01, 0x00, 0x00] = some .err ∧
    decodeGs [0x00, 0x34, 0x12, 0x78, 0x56, 0x02, 0x09, 0xFF, 0xFF, 0xAA] =
      some (.ok (.genericService 0x1234 0x5678 0x02 (gsClass 0x02) 0x09 0xFFFF [0xAA])) := ⟨rfl, rfl⟩

/-! ### The step -/

/-- P7, step 3: a reserved word. -/
theorem test_reserved_word :
    after (step { dfState false true [0x41] with inputs := [.word (.dfIn 0x300)] }) =
      some { dfState false true [0x41] with refused := true } := by decide

/-- P7, step 4: no step after a refusal. -/
theorem test_no_step_after_refusal :
    refusalOf (step { State.reset with refused := true, inputs := [.word (.dfIn 0x17E)] }) = some .blockRefused := by decide

/-- R231, R234: the word offered with SRC_FAIL is not consumed. -/
theorem test_src_fail :
    after (step (offered [.srcFail, .word (.dfIn 0x17E)])) =
      some { offered [.word (.dfIn 0x17E)] with fault := ⟨false, true⟩ } := by decide

/-- P6's last line: after RESET the state is the reset state. -/
theorem test_reset :
    after (step { dfState false true [0x01] with fault := ⟨true, false⟩, inputs := [.reset] }) = some State.reset := by decide

/-- R30, log 2: nothing offered, no step. -/
theorem test_nothing_offered : faultOf (step State.reset) = some .noInput := by decide

/-! ### The hypotheses of the statements can be met -/

theorem after_eq_some {o : StepOutcome} {t : State} : after o = some t ↔ o = .next t := by
  cases o <;> simp [after]

/-- Running and DfRunning. -/
theorem witness_running : State.reset.Running ∧ State.reset.DfRunning ∧ (dfState true true [0x41]).DfRunning := by decide

/-- FreshContext, and the capacity that every block has: 8 bytes. -/
theorem witness_fresh_and_fitting : FreshContext State.reset ∧ FitsBuffer 1 ∧ FitsBuffer 8 :=
  ⟨by decide, fitsBuffer_of_le (by decide), fitsBuffer_of_le (by decide)⟩

/-- The command fields of the CRC_IN and ENC_IN clauses, with ignored bits set. -/
theorem witness_command_words :
    (0x0FF : PortBits).extractLsb' 8 2 = 0 ∧ (0x1FF : PortBits).extractLsb' 8 2 = 1 ∧
    (0x2FF : PortBits).extractLsb' 8 2 = 2 ∧ (0x3FF : PortBits).extractLsb' 8 2 = 3 := by decide

/-- CrcNibFoldsOneNibble, its third clause. -/
theorem witness_nibble_selects_zero : (0xF : Nibble).setWidth 8 = (0xFF : Byte) >>> 4 := by decide

/-- ChecksumIsLinear, its second clause. -/
theorem witness_equal_lengths : frameA.length = frameK.length := by decide

/-- SingleByteCorruptionIsBadChecksum: the first clause by V-FV-09, the second by V-FV-18 at the last byte and at the first. -/
theorem witness_single_byte_corruption :
    (8 ≤ frameI.length ∧ compute frameI ≠ 0x00) ∧
    (8 ≤ frameA.length ∧ compute frameA = 0x00 ∧ 9 < frameA.length ∧ frameA[9]? ≠ some 0xE2 ∧ frameA[0]? ≠ some 0x21) := by
  decide +kernel

/-- EncodeGuarantees, its clause on 0x7D, at both bytes that are stuffed. -/
theorem witness_stuffed_pairs :
    (wireEncode [0x7E])[1]? = some 0x7D ∧ (wireEncode [0x7D])[1]? = some 0x7D := by decide

/-- DfDelimEmitsOrSynchronizes and DfEscPendsOrResyncs: both branches. -/
theorem witness_df_branches :
    (dfState false true []).DfRunning ∧ (dfState false true []).dfBuf = [] ∧ (dfState true true [0x41]).dfBuf ≠ [] ∧
    (dfState false true []).dfEsc = false ∧ (dfState true true [0x41]).dfEsc = true := by decide

/-- DfLitUnescapesAndAppends: a full buffer of capacity 8, one with room for one byte, and BUF_CAP unbounded; and the last clause. -/
theorem witness_df_lit :
    (Instr.dfLit 0x41).wf = true ∧
    (∀ c, (some 8 : Option Nat) = some c → (dfState false true [0, 1, 2, 3, 4, 5, 6, 7]).dfBuf.length ≤ c) ∧
    (∀ c, (some 8 : Option Nat) = some c → (dfState false true [0, 1, 2, 3, 4, 5, 6]).dfBuf.length ≤ c) ∧
    (∀ c, (none : Option Nat) = some c → (dfState true true [0x41]).dfBuf.length ≤ c) ∧
    FitsBuffer ((dfState true true [0x41]).dfBuf.length + 1) := by
  refine ⟨by decide, ?_, ?_, ?_, fitsBuffer_of_le (by decide)⟩ <;> intro c h <;> simp_all [dfState]
  omega

/-- DfLitOverflowSticks: the first clause at the least capacity, the second on a long buffer. -/
theorem witness_overflow :
    ((dfState true true [0, 1, 2, 3, 4, 5, 6, 7]).DfRunning ∧ (dfState true true [0, 1, 2, 3, 4, 5, 6, 7]).dfSync = true ∧
      (dfState true true [0, 1, 2, 3, 4, 5, 6, 7]).dfBuf.length = 8) ∧
    (after (dfLitAt none 0x41 (dfState false true (frameB ++ frameB)))).isSome = true := by decide

/-- PipelineReportsEveryDfEvent: an operation for each kind of event, that goes on without a fault. -/
theorem witness_pipeline :
    ((after (exec .dfDelim State.reset)).map (fun t => t.fault)) = some State.reset.fault ∧
    ((after (exec .dfDelim (dfState true true [0x01]))).map (fun t => t.fault)) = some State.reset.fault ∧
    ((after (exec .dfEsc (dfState true true [0x01]))).map (fun t => t.fault)) = some State.reset.fault ∧
    ((after (exec (.dfLit 0x5E) (dfState true false []))).map (fun t => t.fault)) = some State.reset.fault := by decide

/-- DfRefinesTransitionTable: the six states of R151. -/
theorem witness_six_states :
    ∀ s ∈ [dfState false false [], dfState true false [], dfState false true [], dfState true true [],
           dfState false true [0x41], dfState true true [0x41]],
      s.DfRunning ∧ (s.dfBuf ≠ [] → s.dfSync = true) ∧ s.dfBuf.length + 1 ≤ 8 := by decide

/-- RoundTripEmitsTheFrame, SharedDelimiterLosesSecondFrame, EveryStreamEndsWell: J, the shortest accepted frame, fits. -/
theorem witness_round_trip :
    State.reset.DfRunning ∧ FreshContext State.reset ∧ frameJ ≠ [] ∧ FitsBuffer frameJ.length ∧
    FitsBuffer (State.reset.dfBuf.length + frameJ.length) :=
  ⟨by decide, by decide, by decide, fitsBuffer_of_le (by decide), fitsBuffer_of_le (by decide)⟩

/-- DoubleEscapeRecovers (R155's byte 0x01), and EscapesAtDelimiters: the frame `7E 02`, whose first byte is stuffed, in the first two
streams, and `01 02` behind a stray escape in the third. -/
theorem witness_escape_streams :
    (Instr.dfLit 0x01).wf = true ∧ State.reset.DfRunning ∧ FreshContext State.reset ∧ FitsBuffer [0x7E, 0x02].length ∧
    FitsBuffer [(0x01 : Byte) ^^^ 0x20, 0x02].length ∧
    [0x7E] ++ wireBody [0x7E, 0x02] ++ [0x7D, 0x7E] = [0x7E, 0x7D, 0x5E, 0x02, 0x7D, 0x7E] ∧
    [0x7D] ++ wireEncode [0x01, 0x02] = [0x7D, 0x7E, 0x01, 0x02, 0x7E] :=
  ⟨by decide, by decide, by decide, fitsBuffer_of_le (by decide), fitsBuffer_of_le (by decide), by decide, by decide⟩

/-- AcceptedExactlyWhenWellFormed and ReservedFieldsNeverReject: J, and J with other reserved parts and another version. -/
theorem witness_reserved_fields :
    (∃ fr, parse frameJ = some (.ok fr)) ∧
    (∃ g : List Byte, g ≠ frameJ ∧ g.length = frameJ.length ∧ compute g = 0x00 ∧
      (∀ k, k < 3 → (g.getD 1 0).getLsbD k = (frameJ.getD 1 0).getLsbD k) ∧ g.getD 5 0 = frameJ.getD 5 0 ∧
      (∀ i, i < frameJ.length - 1 → 7 ≤ i → g[i]? = frameJ[i]?)) := by
  refine ⟨⟨_, test_fv_raw.2⟩, [0xFF, 0xFC, 0x12, 0x34, 0x56, 0x02, 0xAA] ++
    [compute [0xFF, 0xFC, 0x12, 0x34, 0x56, 0x02, 0xAA]], ?_⟩
  decide +kernel

/-- LinkControlDecodes and GenericServiceDecodes: both sides of each length. -/
theorem witness_payload_lengths :
    [(0x01 : Byte)].length < 2 ∧ 2 ≤ [(0x01 : Byte), 0x02].length ∧ (frameA.take 8).length < 9 ∧
    9 ≤ (frameA.take 9).length := by decide

/-- MessageTypesClassify: some byte is none of the codes, whatever the codes are. -/
theorem witness_unknown_codes :
    (∃ t : Byte, t ≠ Config.lcStatusCode ∧ t ≠ 0x02 ∧ t ≠ Config.lcBaudRateCode) ∧
    (∃ t : Byte, t ≠ Config.gsReadCode ∧ t ≠ Config.gsWriteCode ∧ t ≠ Config.gsWriteReadCode) := by
  have key : ∀ a b c : Byte, ∃ t : Byte, t ≠ a ∧ t ≠ b ∧ t ≠ c := by
    intro a b c
    by_contra h
    simp only [ne_eq, not_exists, not_and, not_not] at h
    have h0 := h 0
    have h1 := h 1
    have h2 := h 2
    have h3 := h 3
    bv_omega
  exact ⟨key _ _ _, key _ _ _⟩

/-- R5: the codes are pairwise distinct within a profile. -/
theorem test_codes_distinct :
    Config.lcStatusCode ≠ 0x02 ∧ Config.lcBaudRateCode ≠ 0x02 ∧ Config.lcBaudRateCode ≠ Config.lcStatusCode ∧
    Config.gsWriteCode ≠ Config.gsReadCode ∧ Config.gsWriteReadCode ≠ Config.gsReadCode ∧
    Config.gsWriteReadCode ≠ Config.gsWriteCode := by
  have one : ∀ a s : Byte, Config.otherThan a s ≠ a := by
    intro a s
    unfold Config.otherThan
    split_ifs <;> bv_omega
  have two : ∀ a b s : Byte, Config.otherThanBoth a b s ≠ a ∧ Config.otherThanBoth a b s ≠ b := by
    intro a b s
    unfold Config.otherThanBoth
    split_ifs <;> constructor <;> bv_omega
  exact ⟨one _ _, (two _ _ _).1, (two _ _ _).2, one _ _, (two _ _ _).1, (two _ _ _).2⟩

/-- DecodeEncodeAgree: a literal at each side of the excluded bytes; and a word that decodes. -/
theorem witness_round_trip_words :
    (Instr.dfLit 0x7C).wf = true ∧ (Instr.dfLit 0x7F).wf = true ∧ opOf (decode (.dfIn 0x17F)) = some (.dfLit 0x7F) := by decide

/-- StepRunsTheDecodedOperation and NoOperationAndNoOffer. -/
theorem witness_offers :
    (offered [.word (.crcIn 0x2FF)]).inputs = .word (.crcIn 0x2FF) :: [] ∧
    opOf (decode (.crcIn 0x2FF)) = some (.crcByte 0xFF) ∧
    (offered [.word (.fvIn false [])]).Running ∧ State.reset.inputs = [] := by decide

/-- ResetWritesEveryElement, on a stuck block; SrcFailRaisesSourceFailure, on a running, a faulted and a refused block. -/
theorem witness_reset_and_src_fail :
    ({ offered [.reset] with fault := ⟨true, true⟩ } : State).inputs = [.reset] ∧
    ((offered [.srcFail]).Running ∧ (offered [.srcFail]).inputs = [.srcFail]) ∧
    ({ offered [.srcFail] with fault := ⟨true, false⟩ } : State).inputs = [.srcFail] ∧
    ({ offered [.srcFail] with refused := true } : State).inputs = [.srcFail] := by decide

/-- FaultsAreSticky: a stuck block with a word offered, and one with a step that is no RESET (SRC_FAIL). -/
theorem witness_faulted :
    ({ offered [.word (.crcIn 0x100)] with fault := ⟨true, false⟩ } : State).fault ≠ ⟨false, false⟩ ∧
    (after (step { offered [.srcFail] with fault := ⟨true, false⟩ })).map (fun t => t.fault) = some ⟨true, true⟩ ∧
    (after (step { offered [.srcFail] with fault := ⟨false, true⟩ })).map (fun t => t.fault) = some ⟨false, true⟩ := by decide

/-- ReservedWordsAreRefused: the least and the greatest reserved word, and a step of a refused block. -/
theorem witness_refused :
    ((0x300 : PortBits).getLsbD 9 = true ∧ (0x300 : PortBits).getLsbD 8 = true) ∧
    ((0x3FF : PortBits).getLsbD 9 = true ∧ (0x3FF : PortBits).getLsbD 8 = true) ∧
    (offered [.word (.dfIn 0x300)]).Running ∧ (offered [.word (.encIn 0x3FF)]).Running ∧
    (after (step { offered [.srcFail] with refused := true })).map (fun t => t.refused) = some true := by decide

/-- HaltedDeframerHasNoStep: a halted block that runs, and one with a step. StuckBlockAnswersByName on a reserved word. -/
theorem witness_halted :
    ({ State.reset with dfHalted := true } : State).Running ∧ unitOf .dfIdle = .df ∧
    (after (step { offered [.word (.crcIn 0x100)] with dfHalted := true })).map (fun t => t.dfHalted) = some true ∧
    (after (step { offered [.word (.dfIn 0x300)] with dfHalted := true })).map (fun t => t.refused) = some true := by decide

/-- UnitsWriteOnlyTheirOwnState and WritersOfEachElement: an operation of each unit that goes on, and the steps that write the
accumulator, DF.halted, DF.sync and the buffer. (Whether DF.LIT of this block ever raises a fault depends on BUF_CAP, which is open.) -/
theorem witness_each_unit :
    accOf (exec (.crcByte 0x01) State.reset) = some 0x2F ∧
    eventsOf (exec .encDelim State.reset) = some [.encOut [0x7E]] ∧
    (after (exec .dfEos State.reset)).map (fun t => t.dfHalted) = some true ∧
    (after (exec .dfDelim State.reset)).map (fun t => t.dfSync) = some true ∧
    (after (exec .dfDelim (dfState false true [0x41]))).map (fun t => t.dfBuf) = some [] ∧
    eventsOf (exec (.fvParse []) State.reset) = some [.resOut (.tooShort [])] ∧
    eventsOf (exec (.pdRd []) State.reset) = some [.pdReturn (.ok (.rawData []))] := by decide

/-- WritersOfEachElement: steps that set and clear DF.esc, and a step of each way of renewal. -/
theorem witness_escape_writers_and_renewals :
    (after (exec .dfEsc State.reset)).map (fun t => t.dfEsc) = some true ∧
    (after (exec (.dfLit 0x5E) (dfState true false []))).map (fun t => t.dfEsc) = some false ∧
    Renews .dfDelim (dfState true true [0x41]) ∧ Renews .dfEsc (dfState true true []) ∧ Renews .dfEos (dfState false true []) := by
  refine ⟨by decide, by decide, .inl ⟨rfl, by decide⟩, .inr (.inl ⟨rfl, rfl⟩), .inr (.inr rfl)⟩

/-- DecodersAreDispatchedByFv: C has a decoder, E has none, and both pass the stages before dispatch. -/
theorem witness_dispatch :
    (8 ≤ frameC.length ∧ compute frameC = 0x00 ∧
      ¬((frameC.getD 1 0).getLsbD 1 = true ∧ (frameC.getD 1 0).getLsbD 2 = true) ∧ decoderOf (frameC.getD 5 0) = some .rd) ∧
    (8 ≤ frameE.length ∧ compute frameE = 0x00 ∧
      ¬((frameE.getD 1 0).getLsbD 1 = true ∧ (frameE.getD 1 0).getLsbD 2 = true) ∧ decoderOf (frameE.getD 5 0) = none) ∧
    opOf (decode (.fvIn true frameC)) = some (.fvParse frameC) := by decide +kernel

/-- DfUnescapesByXor: V-DF-11's state and byte, with room in the buffer whatever BUF_CAP is. -/
theorem witness_unescape :
    (Instr.dfLit 0x61).wf = true ∧ (dfState true true []).DfRunning ∧ (0x61 : Byte).getLsbD 5 = true ∧
    FitsBuffer ((dfState true true []).dfBuf.length + 1) :=
  ⟨by decide, by decide, by decide, fitsBuffer_of_le (by decide)⟩

/-- UnitsCommute: CRC.BYTE and DF.DELIM both go on at reset. -/
theorem witness_commute :
    unitOf (.crcByte 0x01) ≠ unitOf .dfDelim ∧ unitOf (.crcByte 0x01) ≠ .fv ∧ unitOf (.crcByte 0x01) ≠ .pd ∧
    unitOf .dfDelim ≠ .fv ∧ unitOf .dfDelim ≠ .pd ∧
    (after (exec (.crcByte 0x01) State.reset)).map (fun t => decide t.Running) = some true ∧
    (after (exec .dfDelim State.reset)).map (fun t => decide t.Running) = some true := by decide

/-- OutputHistoryIsWriteOnly: no RESET at the head, and each of the three outcomes. -/
theorem witness_history :
    (∀ rest, (offered [.word (.encIn 0x100)]).inputs ≠ .reset :: rest) ∧
    (after (step (offered [.word (.encIn 0x100)]))).isSome = true ∧ (faultOf (step State.reset)).isSome = true ∧
    (refusalOf (step { State.reset with refused := true })).isSome = true :=
  ⟨fun _ h => by simp [offered] at h, by decide, by decide, by decide⟩

/-- StepKeepsContextInvariant and StepKeepsReportInvariant, on a step that emits a frame. -/
theorem witness_invariants :
    ContextInv { dfState false true [0x41] with inputs := [.word (.dfIn 0x17E)] } ∧
    ReportInv { dfState false true [0x41] with inputs := [.word (.dfIn 0x17E)] } ∧
    (after (step { dfState false true [0x41] with inputs := [.word (.dfIn 0x17E)] })).isSome = true := by
  refine ⟨⟨fun _ => rfl, fitsBuffer_of_le (by decide), ?_⟩, by unfold ReportInv; decide, by decide⟩
  intro h
  cases h

end Sys2Proof.Tests
end

/-! Family 10_state: what `exec` leaves unchanged, unit by unit, and the statements on DF.halted and on the reset values. -/

namespace Sys2Proof.Machine

/-! ### What an operation that goes on says of the state -/

/-- A DF operation goes on only where DF runs (42_deframer R140). -/
theorem dfRunning_of_exec_df_next {i : Instr} {s t : State} (hi : unitOf i = .df) (h : exec i s = .next t) :
    s.DfRunning := by
  cases i with
  | dfIdle | dfDelim | dfEsc | dfLit b | dfEos => exact (State.whenDfRunning_next_iff.mp h).1
  | _ => cases hi

/-- A checksum operation writes at most the accumulator (40_checksum R102 to R105). -/
theorem exec_crc_next_frame {i : Instr} {s t : State} (hi : unitOf i = .crc) (h : exec i s = .next t) :
    t = { s with crcAcc := t.crcAcc } := by
  cases i with
  | crcIdle | crcInit | crcByte b | crcNib n =>
    obtain ⟨-, ht⟩ := State.whenRunning_next_iff.mp h
    cases ht
    rfl
  | _ => cases hi

/-- An encoder operation adds to the history only (41_encoder R120). -/
theorem exec_enc_next_frame {i : Instr} {s t : State} (hi : unitOf i = .enc) (h : exec i s = .next t) :
    t = { s with events := t.events } := by
  cases i with
  | encIdle | encDelim | encData b =>
    obtain ⟨-, ht⟩ := State.whenRunning_next_iff.mp h
    cases ht
    rfl
  | _ => cases hi

/-- FV.PARSE adds to the history only (43_frame_parser R182). -/
theorem exec_fv_next_frame {i : Instr} {s t : State} (hi : unitOf i = .fv) (h : exec i s = .next t) :
    t = { s with events := t.events } := by
  cases i with
  | fvParse f =>
    obtain ⟨-, ht⟩ := State.whenRunning_next_iff.mp h
    obtain ⟨r, -, rfl⟩ := State.validate_next_iff.mp ht
    rfl
  | _ => cases hi

/-- A payload decoder adds to the history only (44_payload_decode R200). -/
theorem exec_pd_next_frame {i : Instr} {s t : State} (hi : unitOf i = .pd) (h : exec i s = .next t) :
    t = { s with events := t.events } := by
  cases i with
  | pdLc p | pdRd p | pdGs p =>
    obtain ⟨-, ht⟩ := State.whenRunning_next_iff.mp h
    obtain ⟨d, -, rfl⟩ := State.handBack_next_iff.mp ht
    rfl
  | _ => cases hi

/-! ### DF.halted -/

/-- What DF.EOS does where it goes on (42_deframer R148). -/
theorem exec_dfEos_next_iff {s t : State} : exec .dfEos s = .next t ↔ s.DfRunning ∧ t = s.renew.halt := by
  rw [show exec .dfEos s = s.whenDfRunning (.next s.renew.halt) from rfl, State.whenDfRunning_next_iff,
    Host.Outcome.next.injEq, eq_comm (a := t)]

/-- No operation has a step that clears DF.halted: a DF operation has none in a halted block, and the others do not write it. -/
theorem exec_next_keeps_dfHalted {i : Instr} {s t : State} (h : exec i s = .next t) (hs : s.dfHalted = true) :
    t.dfHalted = true := by
  cases hu : unitOf i with
  | df =>
    obtain ⟨-, hf⟩ := dfRunning_of_exec_df_next hu h
    simp [hf] at hs
  | crc => rw [exec_crc_next_frame hu h]; exact hs
  | enc => rw [exec_enc_next_frame hu h]; exact hs
  | fv => rw [exec_fv_next_frame hu h]; exact hs
  | pd => rw [exec_pd_next_frame hu h]; exact hs

/-- Only RESET clears DF.halted (10_state R25). -/
theorem step_next_keeps_dfHalted {s t : State} (h : step s = .next t) (hr : ∀ rest, s.inputs ≠ .reset :: rest)
    (hs : s.dfHalted = true) : t.dfHalted = true := by
  rcases step_next_cases h with
    ⟨rest, hi, -⟩ | ⟨_, -, rfl⟩ | ⟨_, _, _, -, -, he⟩ | ⟨_, _, _, -, -, -, ⟨-, rfl⟩ | ⟨-, rfl⟩⟩
  · exact absurd hi (hr rest)
  · exact hs
  · exact exec_next_keeps_dfHalted he hs
  · exact hs
  · exact hs

/-! ### The statements -/

/-- Settles O49: DF.EOS answers a halted state; a DF operation that goes on needs DF to run, so a halted one has no step; and every
step but RESET keeps DF.halted. -/
theorem haltedDeframerHasNoStep : Obligations.HaltedDeframerHasNoStep := by
  refine ⟨fun s t h => ?_, fun s t i hs hi h => ?_, fun s t h hr hs => step_next_keeps_dfHalted h hr hs⟩
  · obtain ⟨-, rfl⟩ := exec_dfEos_next_iff.mp h
    exact State.halt_dfHalted _
  · obtain ⟨-, hf⟩ := dfRunning_of_exec_df_next hi h
    simp [hf] at hs

/-- Settles O44: each element of `State.reset` is the value of R36. -/
theorem resetValues : Obligations.ResetValues :=
  ⟨rfl, rfl, rfl, rfl, rfl, rfl, rfl⟩

end Sys2Proof.Machine

/-! Family 30_encoding: the decoder by the cmd and byte fields of a port word, and what every word of the three 10-bit ports means. -/

namespace Sys2Proof

/-! ### The fields of a port word -/

/-- The cmd field [9:8] of a port word: cmd of ENC_IN and CRC_IN, eos and valid of DF_IN (30_encoding R70 to R72). -/
def cmdField (w : PortBits) : BitVec 2 := w.extractLsb' 8 2

/-- A port word is its cmd field above its byte field. -/
theorem cmdField_append_byteField (w : PortBits) : cmdField w ++ byteField w = w :=
  (BitVec.extractLsb'_append_extractLsb'_eq_extractLsb' (start₂ := 8) (len₂ := 2) (start₁ := 0) (len₁ := 8) rfl).trans
    BitVec.extractLsb'_eq_self

/-- A port word is given by its two fields. -/
theorem eq_append_iff_fields {w : PortBits} {c : BitVec 2} {b : Byte} :
    w = c ++ b ↔ cmdField w = c ∧ byteField w = b := by
  constructor
  · rintro rfl
    exact ⟨BitVec.extractLsb'_append_eq_left, BitVec.extractLsb'_append_eq_right⟩
  · rintro ⟨rfl, rfl⟩
    exact (cmdField_append_byteField w).symm

/-- The mask 0x300 keeps the cmd field and clears the byte field. -/
theorem and_cmdMask (w : PortBits) : w &&& 0x300 = cmdField w ++ (0 : Byte) := by
  have hmask : (0x300 : PortBits) = BitVec.allOnes 2 ++ (0 : Byte) := rfl
  conv_lhs => rw [← cmdField_append_byteField w, hmask, BitVec.and_append, BitVec.and_allOnes]
  exact congrArg (cmdField w ++ ·) BitVec.and_zero

/-- The cmd field has four values. -/
theorem cmdField_cases (w : PortBits) : cmdField w = 0 ∨ cmdField w = 1 ∨ cmdField w = 2 ∨ cmdField w = 3 := by
  bv_omega

/-! ### The rows by fields -/

/-- A row with mask 0x300 tests the cmd field and nothing else (30_encoding R78). -/
theorem firstRow_cmdRow (p : PortBits) (c : BitVec 2) (hp : p = c ++ (0 : Byte)) (op : PortBits → Instr)
    (rs : List PortRow) (w : PortBits) :
    firstRow (⟨0x300, p, op⟩ :: rs) w = if cmdField w = c then .ok (op w) else firstRow rs w := by
  have hrow : w &&& 0x300 = p ↔ cmdField w = c := by
    rw [hp, and_cmdMask, BitVec.append_left_inj]
  simp only [firstRow, hrow]

/-- A row with mask 0x3FF tests both fields (30_encoding R78). -/
theorem firstRow_wordRow (p : PortBits) (c : BitVec 2) (b : Byte) (hp : p = c ++ b) (op : PortBits → Instr)
    (rs : List PortRow) (w : PortBits) :
    firstRow (⟨0x3FF, p, op⟩ :: rs) w = if cmdField w = c ∧ byteField w = b then .ok (op w) else firstRow rs w := by
  have hmask : (0x3FF : PortBits) = BitVec.allOnes 10 := rfl
  have hrow : w &&& 0x3FF = p ↔ cmdField w = c ∧ byteField w = b := by
    rw [hp, hmask, BitVec.and_allOnes, eq_append_iff_fields]
  simp only [firstRow, hrow]

/-! ### The decoder by fields -/

/-- CRC_IN by cmd (30_encoding R72). -/
theorem decode_crcIn (w : PortBits) : decode (.crcIn w) =
    if cmdField w = 0 then .ok .crcIdle
    else if cmdField w = 1 then .ok .crcInit
    else if cmdField w = 2 then .ok (.crcByte (byteField w))
    else .ok (.crcNib (nibbleField w)) := by
  rw [decode, crcInRows, firstRow_cmdRow 0x000 0 rfl, firstRow_cmdRow 0x100 1 rfl, firstRow_cmdRow 0x200 2 rfl,
    firstRow_cmdRow 0x300 3 rfl]
  rcases cmdField_cases w with hc | hc | hc | hc <;> simp [hc]

/-- ENC_IN by cmd (30_encoding R71). -/
theorem decode_encIn (w : PortBits) : decode (.encIn w) =
    if cmdField w = 0 then .ok .encIdle
    else if cmdField w = 1 then .ok .encDelim
    else if cmdField w = 2 then .ok (.encData (byteField w))
    else .error .reservedWord := by
  rw [decode, encInRows, firstRow_cmdRow 0x000 0 rfl, firstRow_cmdRow 0x100 1 rfl, firstRow_cmdRow 0x200 2 rfl, firstRow]

/-- DF_IN by cmd, which is eos above valid, and by the byte where cmd is 1 (30_encoding R70). -/
theorem decode_dfIn (w : PortBits) : decode (.dfIn w) =
    if cmdField w = 0 then .ok .dfIdle
    else if cmdField w = 1 then
      if byteField w = 0x7E then .ok .dfDelim
      else if byteField w = 0x7D then .ok .dfEsc
      else .ok (.dfLit (byteField w))
    else if cmdField w = 2 then .ok .dfEos
    else .error .reservedWord := by
  rw [decode, dfInRows, firstRow_cmdRow 0x000 0 rfl, firstRow_wordRow 0x17E 1 0x7E rfl, firstRow_wordRow 0x17D 1 0x7D rfl,
    firstRow_cmdRow 0x100 1 rfl, firstRow_cmdRow 0x200 2 rfl, firstRow]
  rcases cmdField_cases w with hc | hc | hc | hc <;> simp [hc]

/-! ### DF_IN's flags -/

/-- eos is bit 9 of a DF_IN word: cmd is 0 or 1 without it (30_encoding R70). -/
theorem eos_eq_false_iff {w : PortBits} : w.getLsbD 9 = false ↔ cmdField w = 0 ∨ cmdField w = 1 := by
  have hbit : (cmdField w).getLsbD 1 = w.getLsbD 9 := by simp [cmdField]
  rw [← hbit]
  rcases cmdField_cases w with hc | hc | hc | hc <;> simp [hc]

/-- valid is bit 8 of a DF_IN word: cmd is 0 or 2 without it (30_encoding R70). -/
theorem valid_eq_false_iff {w : PortBits} : w.getLsbD 8 = false ↔ cmdField w = 0 ∨ cmdField w = 2 := by
  have hbit : (cmdField w).getLsbD 0 = w.getLsbD 8 := by simp [cmdField]
  rw [← hbit]
  rcases cmdField_cases w with hc | hc | hc | hc <;> simp [hc]

/-! ### The statement -/

/-- Settles O39: `decode_dfIn`, with eos and valid for cmd, `decode_encIn` and `decode_crcIn`. -/
theorem portWordsDecodeByField : Obligations.PortWordsDecodeByField := by
  refine ⟨fun w => ?_, decode_encIn, decode_crcIn⟩
  rw [decode_dfIn, byteField]
  simp only [eos_eq_false_iff, valid_eq_false_iff]
  rcases cmdField_cases w with hc | hc | hc | hc <;> simp [hc]

end Sys2Proof

/-! Family 40_checksum: the nibble step by nibbles, what the checksum operations do where the block runs, and that FV.PARSE always
reports. -/

namespace Sys2Proof.Machine

/-! ### Nibbles as numbers -/

@[simp] theorem highNibble_toNat (c : Byte) : (highNibble c).toNat = c.toNat / 16 := by
  have hdiv : c.toNat / 16 < 16 := by omega
  simpa [highNibble, Nat.shiftRight_eq_div_pow] using hdiv

@[simp] theorem lowNibble_toNat (c : Byte) : (lowNibble c).toNat = c.toNat % 16 := by
  simp [lowNibble]

/-- The high nibble of a byte moved up by a nibble is its low nibble. -/
theorem highNibble_shiftLeft_four (c : Byte) : highNibble (c <<< 4) = lowNibble c := by
  apply BitVec.eq_of_toNat_eq
  rw [highNibble_toNat, lowNibble_toNat, BitVec.toNat_shiftLeft, Nat.shiftLeft_eq]
  omega

/-- A nibble that, as a byte, equals a byte moved down by a nibble is that byte's high nibble. -/
theorem eq_highNibble_of_setWidth_eq {c : Byte} {n : Nibble} (h : n.setWidth 8 = c >>> 4) : n = highNibble c := by
  apply BitVec.eq_of_toNat_eq
  rw [highNibble_toNat]
  bv_omega

/-! ### The nibble step by nibbles -/

/-- The low nibble moved up needs no mask (40_checksum R101). -/
theorem shiftLeft_four_and_mask (c : Byte) : (c <<< 4) &&& (0xF0 : Byte) = c <<< 4 := by
  have hmask : (0xF0 : Byte) = BitVec.allOnes 8 <<< 4 := rfl
  rw [hmask, ← BitVec.shiftLeft_and_distrib, BitVec.and_allOnes]

/-- The table index is the nibble against the accumulator's high nibble (40_checksum R101). -/
theorem crcIndex_toNat (c : Byte) (n : Nibble) :
    ((n.setWidth 8 ^^^ (c >>> 4)) &&& 0x0F : Byte).toNat = (n ^^^ highNibble c).toNat := by
  have hn : n.toNat % 256 = n.toNat := by omega
  have hmask := Nat.and_two_pow_sub_one_of_lt_two_pow (n ^^^ highNibble c).isLt
  simpa [hn, Nat.shiftRight_eq_div_pow] using hmask

/-- The nibble step: the table entry at the nibble against the accumulator's high nibble, then the low nibble moved up (R101). -/
theorem crcNibStep_eq (c : Byte) (n : Nibble) :
    crcNibStep c n = crcTable.getD (n ^^^ highNibble c).toNat 0 ^^^ c <<< 4 := by
  rw [crcNibStep, shiftLeft_four_and_mask]
  simp only [crcIndex_toNat]

/-- A nibble equal to the accumulator's high nibble selects TABLE[0], which is 0 (40_checksum R104). -/
theorem crcNibStep_highNibble (c : Byte) : crcNibStep c (highNibble c) = c <<< 4 := by
  have htable : crcTable.getD (0#4).toNat 0 = 0#8 := rfl
  rw [crcNibStep_eq, BitVec.xor_self, htable, BitVec.zero_xor]

/-- Folding the accumulator into itself gives 0 (40_checksum R105). -/
theorem crcByteStep_self (c : Byte) : crcByteStep c c = 0x00 := by
  rw [crcByteStep, crcNibStep_highNibble, ← highNibble_shiftLeft_four, crcNibStep_highNibble, ← BitVec.shiftLeft_add]
  exact BitVec.shiftLeft_eq_zero (by decide)

/-! ### The operations where the block runs -/

section Running

variable {s : State} (hs : s.Running)
include hs

/-- CRC.IDLE (40_checksum R102). -/
theorem exec_crcIdle_of_running : exec .crcIdle s = .next s :=
  State.whenRunning_of_running hs _

/-- CRC.INIT (40_checksum R103). -/
theorem exec_crcInit_of_running : exec .crcInit s = .next (s.setAcc 0x00) :=
  State.whenRunning_of_running hs _

/-- CRC.NIB (40_checksum R104). -/
theorem exec_crcNib_of_running (n : Nibble) : exec (.crcNib n) s = .next (s.setAcc (crcNibStep s.crcAcc n)) :=
  State.whenRunning_of_running hs _

/-- CRC.BYTE (40_checksum R105). -/
theorem exec_crcByte_of_running (b : Byte) : exec (.crcByte b) s = .next (s.setAcc (crcByteStep s.crcAcc b)) :=
  State.whenRunning_of_running hs _

/-- FV.PARSE reports what `parse` answers (43_frame_parser R170). -/
theorem exec_fvParse_of_running {f : List Byte} {r : ResEvent} (hr : parse f = some r) :
    exec (.fvParse f) s = .next (s.report r) :=
  (State.whenRunning_of_running hs _).trans (State.validate_next_iff.mpr ⟨r, hr, rfl⟩)

end Running

/-! ### FV always has a result -/

/-- A FrameRead inside the frame answers a byte (20_memory R43). -/
theorem frameRead_of_lt {f : List Byte} {i : Nat} (h : i < f.length) : frameRead f i = some f[i] :=
  List.getElem?_eq_getElem h

/-- Every decoder answers on every payload: its length check rules out a read past the end (44_payload_decode R201, R205, R206). -/
theorem exists_runDecoder_eq_some (d : PayloadDecoder) (p : List Byte) : ∃ r, runDecoder d p = some r := by
  cases d with
  | lc =>
    by_cases hlen : p.length < 2
    · exact ⟨.err, if_pos hlen⟩
    · simp [runDecoder, decodeLc, hlen, frameRead_of_lt (show 1 < p.length by omega)]
  | rd => exact ⟨_, rfl⟩
  | gs =>
    by_cases hlen : p.length < 9
    · exact ⟨.err, if_pos hlen⟩
    · simp (disch := omega) [runDecoder, decodeGs, hlen, frameRead_of_lt]

/-- FV has a result for every frame: stage 1 rules out a read past the end (43_frame_parser R170, 20_memory R43). -/
theorem exists_parse_eq_some (f : List Byte) : ∃ r, parse f = some r := by
  by_cases hlen : f.length < 8
  · exact ⟨.tooShort f, if_pos hlen⟩
  by_cases hcrc : compute f ≠ 0x00
  · exact ⟨.badChecksum f, (if_neg hlen).trans (if_pos hcrc)⟩
  unfold parse
  rw [if_neg hlen, if_neg hcrc, frameRead_of_lt (by omega), frameRead_of_lt (by omega), frameRead_of_lt (by omega)]
  simp only [Option.bind_eq_bind, Option.bind_some]
  split_ifs
  · exact ⟨_, rfl⟩
  cases decoderOf f[5] with
  | none => exact ⟨_, rfl⟩
  | some d =>
    obtain ⟨r, hr⟩ := exists_runDecoder_eq_some d (payloadRegion f)
    exact ⟨_, Option.map_eq_some_iff.mpr ⟨r, hr, rfl⟩⟩

/-! ### The statements -/

/-- Settles O1: the table by evaluation, the step by `crcNibStep_eq` with the index and the shift read as numbers. -/
theorem nibbleStepIsTableLookup : Obligations.NibbleStepIsTableLookup := by
  refine ⟨by decide, by decide, fun c n => ?_⟩
  have hindex : (n ^^^ highNibble c).toNat = (n.toNat ^^^ (c.toNat / 16)) % 16 := by
    have hlt := Nat.mod_eq_of_lt (n ^^^ highNibble c).isLt
    simpa using hlt.symm
  have hshift : c <<< 4 = BitVec.ofNat 8 ((c.toNat * 16) % 256) := by bv_omega
  rw [crcNibStep_eq, hindex, hshift]

/-- Settles O2: `exec_crcIdle_of_running`, and `decode_crcIn` at cmd = 00. -/
theorem crcIdleChangesNothing : Obligations.CrcIdleChangesNothing :=
  ⟨fun _ hs => exec_crcIdle_of_running hs, fun w hw => by simp [decode_crcIn, cmdField, hw]⟩

/-- Settles O3: `exec_crcInit_of_running`, and `decode_crcIn` at cmd = 01. -/
theorem crcInitClearsAccumulator : Obligations.CrcInitClearsAccumulator :=
  ⟨fun _ hs => exec_crcInit_of_running hs, fun w hw => by simp [decode_crcIn, cmdField, hw]⟩

/-- Settles O4: a nibble equal to acc >> 4 is the high nibble, which selects TABLE[0]. -/
theorem crcNibFoldsOneNibble : Obligations.CrcNibFoldsOneNibble := by
  refine ⟨fun n s hs => exec_crcNib_of_running hs n, fun w hw => ?_, fun c n hn => ?_, rfl, rfl, rfl, rfl⟩
  · simp [decode_crcIn, cmdField, nibbleField, hw]
  · rw [eq_highNibble_of_setWidth_eq hn, crcNibStep_highNibble, shiftLeft_four_and_mask]

/-- Settles O5: `crcByteStep` is the two nibble steps, and a byte equal to the accumulator folds to 0. -/
theorem crcByteFoldsHighNibbleFirst : Obligations.CrcByteFoldsHighNibbleFirst := by
  refine ⟨fun b s hs => exec_crcByte_of_running hs b, fun w hw => ?_, crcByteStep_self, rfl, rfl⟩
  simp [decode_crcIn, cmdField, byteField, hw]

/-- Settles O6: `parse` does not see the state, so both runs of FV.PARSE report the same result. -/
theorem computeIsPrivateFold : Obligations.ComputeIsPrivateFold := by
  refine ⟨fun _ => rfl, rfl, fun f v s hs => ?_⟩
  obtain ⟨r, hr⟩ := exists_parse_eq_some f
  exact ⟨s.report r, exec_fvParse_of_running hs hr, rfl, exec_fvParse_of_running (s := { s with crcAcc := v }) hs hr⟩

end Sys2Proof.Machine

/-! Family 41_encoder: the bytes that a sequence placed on ENC_OUT adds, and what the encoder's operations do where the block runs. -/

namespace Sys2Proof.Machine

/-! ### The bytes of ENC_OUT -/

/-- A byte sequence placed on ENC_OUT ends the concatenated output (30_encoding R75). -/
@[simp] theorem State.encOut_out_encOut (s : State) (bs : List Byte) : (s.out (.encOut bs)).encOut = s.encOut ++ bs := by
  simp [State.encOut, encOutOf]

/-! ### The encoder's operations where the block runs -/

section Running

variable {s : State} (hs : s.Running)
include hs

/-- ENC.IDLE (41_encoder R121). -/
theorem exec_encIdle_of_running : exec .encIdle s = .next (s.out (.encOut [])) :=
  State.whenRunning_of_running hs _

/-- ENC.DELIM (41_encoder R122). -/
theorem exec_encDelim_of_running : exec .encDelim s = .next (s.out (.encOut [0x7E])) :=
  State.whenRunning_of_running hs _

/-- ENC.DATA (41_encoder R123). -/
theorem exec_encData_of_running (b : Byte) : exec (.encData b) s = .next (s.out (.encOut (stuff b))) :=
  State.whenRunning_of_running hs _

end Running

/-! ### The statements -/

/-- Settles O12: `exec_encIdle_of_running`, where the empty sequence adds no byte, and `decode_encIn` at cmd = 00. -/
theorem encIdleEmitsNothing : Obligations.EncIdleEmitsNothing := by
  refine ⟨fun s hs => ⟨_, exec_encIdle_of_running hs, rfl, ?_⟩, fun w hw => ?_⟩
  · rw [State.encOut_out_encOut, List.append_nil]
  · simp [decode_encIn, cmdField, hw]

/-- Settles O13: `exec_encDelim_of_running`, and `decode_encIn` at cmd = 01. -/
theorem encDelimEmitsDelimiter : Obligations.EncDelimEmitsDelimiter := by
  refine ⟨fun s hs => ⟨_, exec_encDelim_of_running hs, rfl, State.encOut_out_encOut s _⟩, fun w hw => ?_⟩
  simp [decode_encIn, cmdField, hw]

/-- Settles O14: `exec_encData_of_running`, where `stuff` is the statement's case split, and `decode_encIn` at cmd = 10. -/
theorem encDataStuffsSpecialBytes : Obligations.EncDataStuffsSpecialBytes := by
  refine ⟨fun b s hs => ⟨_, exec_encData_of_running hs b, rfl, State.encOut_out_encOut s _⟩, fun w hw => ?_⟩
  simp [decode_encIn, cmdField, byteField, hw]

end Sys2Proof.Machine

/-! Family 42_deframer: what placing an event on DF_OUT answers, what each DF operation does where DF runs, and the un-escape
function. -/

namespace Sys2Proof.Machine

/-! ### Placing an event on DF_OUT -/

/-- Continue has no report (42_deframer R149). -/
theorem State.dfPut_cont (s : State) : s.dfPut .cont = .next { s with events := s.events ++ [.dfOut .cont] } := rfl

/-- Emit is followed by FV's result of the frame (42_deframer R149). -/
theorem State.dfPut_emit (s : State) {f : List Byte} {r : ResEvent} (hr : parse f = some r) :
    s.dfPut (.emit f) = .next { s with events := s.events ++ [.dfOut (.emit f), .resOut r] } := by
  rw [State.dfPut_next_iff.mpr (.inr (.inl ⟨f, r, rfl, hr, rfl⟩))]
  simp [State.report, State.out]

/-- ResyncError is followed by FramingError (42_deframer R149). -/
theorem State.dfPut_resyncError (s : State) :
    s.dfPut .resyncError = .next { s with events := s.events ++ [.dfOut .resyncError, .resOut .framingError] } := by
  simp [State.dfPut, State.pipeline, State.report, State.out]

/-! ### The operations where DF runs -/

section DfRunning

variable {s : State} (hs : s.DfRunning)
include hs

/-- DF.IDLE (42_deframer R142). -/
theorem exec_dfIdle_of_dfRunning : exec .dfIdle s = .next s :=
  State.whenDfRunning_of_running hs _

/-- DF.DELIM on an empty buffer synchronises (42_deframer R143). -/
theorem exec_dfDelim_of_empty (hbuf : s.dfBuf = []) : exec .dfDelim s = s.synchronize.dfPut .cont :=
  (State.whenDfRunning_of_running hs _).trans (if_neg (by simp [hbuf]))

/-- DF.DELIM on a non-empty buffer emits it and renews the context (42_deframer R143). -/
theorem exec_dfDelim_of_nonempty (hbuf : s.dfBuf ≠ []) : exec .dfDelim s = s.renew.dfPut (.emit s.dfBuf) :=
  (State.whenDfRunning_of_running hs _).trans (if_pos (List.length_pos_of_ne_nil hbuf))

/-- DF.ESC with no escape pending records one (42_deframer R144). -/
theorem exec_dfEsc_of_not_pending (hesc : s.dfEsc = false) : exec .dfEsc s = (s.setEsc true).dfPut .cont :=
  (State.whenDfRunning_of_running hs _).trans (if_neg (by simp [hesc]))

/-- DF.ESC with an escape pending renews the context (42_deframer R144). -/
theorem exec_dfEsc_of_pending (hesc : s.dfEsc = true) : exec .dfEsc s = s.renew.dfPut .resyncError :=
  (State.whenDfRunning_of_running hs _).trans (if_pos hesc)

/-- DF.LIT with room for one more byte, or unsynchronised (42_deframer R145). -/
theorem exec_dfLit_of_room (b : Byte) (hroom : s.dfSync = true → FitsBuffer (s.dfBuf.length + 1)) :
    exec (.dfLit b) s = (s.acceptLiteral b).dfPut .cont := by
  refine (State.whenDfRunning_of_running hs _).trans (if_neg ?_)
  rw [Bool.and_eq_true, not_and, Bool.not_eq_true, fullAt_bufCap_eq_false_iff]
  exact hroom

/-- DF.LIT at capacity while synchronised raises BufferOverflow (42_deframer R146). -/
theorem exec_dfLit_of_full (b : Byte) (hsync : s.dfSync = true) (hfull : ¬FitsBuffer (s.dfBuf.length + 1)) :
    exec (.dfLit b) s = .next (s.raiseFault .bufferOverflow) := by
  refine (State.whenDfRunning_of_running hs _).trans (if_pos ?_)
  rwa [hsync, Bool.true_and, ← Bool.not_eq_false, fullAt_bufCap_eq_false_iff]

end DfRunning

/-! ### What a DF byte operation that goes on has done -/

/-- A DF byte operation that goes on overflowed, or left the history to one event on DF_OUT: an Emit of the whole buffer, not empty,
a ResyncError only with an escape pending, or Continue. -/
theorem exec_dfByte_next_cases {i : Instr} {s t : State} (hi : i = .dfDelim ∨ i = .dfEsc ∨ ∃ b, i = .dfLit b)
    (hs : s.DfRunning) (h : exec i s = .next t) :
    t = s.raiseFault .bufferOverflow ∨
    ∃ (u : State) (e : DfEvent), u.events = s.events ∧ u.dfPut e = .next t ∧
      (∀ f, e = .emit f → f = s.dfBuf ∧ f ≠ []) ∧ (e = .resyncError → s.dfEsc = true) := by
  rcases hi with rfl | rfl | ⟨b, rfl⟩
  · by_cases hbuf : s.dfBuf = []
    · rw [exec_dfDelim_of_empty hs hbuf] at h
      exact .inr ⟨s.synchronize, .cont, rfl, h, nofun, nofun⟩
    · rw [exec_dfDelim_of_nonempty hs hbuf] at h
      exact .inr ⟨s.renew, .emit s.dfBuf, rfl, h, fun | _, rfl => ⟨rfl, hbuf⟩, nofun⟩
  · cases hesc : s.dfEsc with
    | false =>
      rw [exec_dfEsc_of_not_pending hs hesc] at h
      exact .inr ⟨s.setEsc true, .cont, rfl, h, nofun, nofun⟩
    | true =>
      rw [exec_dfEsc_of_pending hs hesc] at h
      exact .inr ⟨s.renew, .resyncError, rfl, h, nofun, fun _ => rfl⟩
  · by_cases hroom : s.dfSync = true → FitsBuffer (s.dfBuf.length + 1)
    · rw [exec_dfLit_of_room hs b hroom] at h
      exact .inr ⟨s.acceptLiteral b, .cont, by rw [State.acceptLiteral_eq], h, nofun, nofun⟩
    · obtain ⟨hsync, hfull⟩ := Classical.not_imp.mp hroom
      rw [exec_dfLit_of_full hs b hsync hfull, Host.Outcome.next.injEq] at h
      exact .inl h.symm

/-! ### The un-escape function by bits -/

/-- The escape mask is bit 5 (30_encoding R61). -/
theorem escapeMask_eq_twoPow : (0x20 : Byte) = BitVec.twoPow 8 5 := rfl

/-- Un-escaping is XOR with 0x20 (42_deframer R147). -/
theorem unescape_eq_xor (b : Byte) : unescape b = b ^^^ 0x20 := rfl

/-- Un-escaping inverts bit 5 and keeps the others (42_deframer R147). -/
theorem unescape_getLsbD (b : Byte) (i : Nat) : (unescape b).getLsbD i = (b.getLsbD i ^^ decide (i = 5)) := by
  rw [unescape_eq_xor, escapeMask_eq_twoPow, BitVec.getLsbD_xor, BitVec.getLsbD_twoPow]
  simp [eq_comm (a := i)]

/-- OR with 0x20 sets bit 5 and keeps the others. -/
theorem or_escapeMask_getLsbD (b : Byte) (i : Nat) : (b ||| 0x20).getLsbD i = (b.getLsbD i || decide (i = 5)) := by
  rw [escapeMask_eq_twoPow, BitVec.getLsbD_or, BitVec.getLsbD_twoPow]
  simp [eq_comm (a := i)]

/-- Un-escaping twice gives the byte back (42_deframer R147). -/
theorem unescape_unescape (b : Byte) : unescape (unescape b) = b := by
  rw [unescape_eq_xor, unescape_eq_xor, BitVec.xor_assoc, BitVec.xor_self, BitVec.xor_zero]

/-- OR with 0x20 keeps a byte whose bit 5 is 1. -/
theorem or_escapeMask_eq_self {b : Byte} (hb : b.getLsbD 5 = true) : b ||| 0x20 = b := by
  refine BitVec.eq_of_getLsbD_eq fun i _ => ?_
  rw [or_escapeMask_getLsbD]
  obtain rfl | hi := eq_or_ne i 5
  · rw [hb]
    rfl
  · simp [hi]

/-- Where bit 5 is 0, XOR and OR with 0x20 agree. -/
theorem unescape_eq_or_escapeMask {b : Byte} (hb : b.getLsbD 5 = false) : unescape b = b ||| 0x20 := by
  refine BitVec.eq_of_getLsbD_eq fun i _ => ?_
  rw [unescape_getLsbD, or_escapeMask_getLsbD]
  obtain rfl | hi := eq_or_ne i 5
  · rw [hb]
    rfl
  · simp [hi]

/-- XOR and OR with 0x20 differ exactly where bit 5 is 1 (42_deframer R147). -/
theorem unescape_ne_or_escapeMask_iff (b : Byte) : unescape b ≠ b ||| 0x20 ↔ b.getLsbD 5 = true := by
  constructor
  · intro hne
    by_contra hb
    exact hne (unescape_eq_or_escapeMask (Bool.eq_false_of_not_eq_true hb))
  · intro hb heq
    have hbit := unescape_getLsbD b 5
    rw [heq, or_escapeMask_eq_self hb, hb] at hbit
    cases hbit

/-- Where bit 5 is 1, un-escaping takes 0x20 away (42_deframer R147). -/
theorem unescape_eq_sub {b : Byte} (hb : b.getLsbD 5 = true) : unescape b = b - 0x20 := by
  have hclear : (unescape b).getLsbD 5 = false := by rw [unescape_getLsbD, hb]; rfl
  have hdisjoint : unescape b &&& 0x20 = 0#8 := by
    rw [escapeMask_eq_twoPow, BitVec.and_twoPow, hclear]
    rfl
  rw [BitVec.eq_sub_iff_add_eq]
  calc unescape b + 0x20
      _ = unescape b ||| 0x20 := BitVec.add_eq_or_of_and_eq_zero _ _ hdisjoint
      _ = unescape (unescape b) := (unescape_eq_or_escapeMask hclear).symm
      _ = b := unescape_unescape b

/-! ### The statements -/

/-- Settles O23: a byte operation that does not overflow is one `dfPut`, whose three events `State.dfPut_next_iff` tells apart. -/
theorem pipelineReportsEveryDfEvent : Obligations.PipelineReportsEveryDfEvent := by
  intro i s t hi h hfault
  have hs : s.DfRunning := by
    refine dfRunning_of_exec_df_next ?_ h
    rcases hi with rfl | rfl | ⟨b, rfl⟩ <;> rfl
  rcases exec_dfByte_next_cases hi hs h with rfl | ⟨u, e, hu, hput, hemit, hresync⟩
  · rw [State.raiseFault_fault, hs.1.1] at hfault
    exact absurd hfault (FaultSet.insert_ne_empty _ _)
  · rcases State.dfPut_next_iff.mp hput with ⟨rfl, rfl⟩ | ⟨f, r, rfl, hr, rfl⟩ | ⟨rfl, rfl⟩
    · exact ⟨.cont, [], by simp [hu], fun _ => rfl, nofun, nofun⟩
    · obtain ⟨hbuf, hne⟩ := hemit f rfl
      exact ⟨.emit f, [r], by simp [hu], nofun, fun | _, rfl => ⟨hbuf, hne, r, hr, rfl⟩, nofun⟩
    · exact ⟨.resyncError, [.framingError], by simp [hu], nofun, nofun, fun he => ⟨hresync he, rfl⟩⟩

/-- Settles O17: `exec_dfIdle_of_dfRunning`, and `decode_dfIn` at eos = valid = 0. -/
theorem dfIdleChangesNothing : Obligations.DfIdleChangesNothing :=
  ⟨fun _ hs => exec_dfIdle_of_dfRunning hs, fun w hw => by simp [decode_dfIn, cmdField, hw]⟩

/-- Settles O18: `exec_dfDelim_of_empty` and `exec_dfDelim_of_nonempty`; FV has a result for the emitted frame. -/
theorem dfDelimEmitsOrSynchronizes : Obligations.DfDelimEmitsOrSynchronizes := by
  refine ⟨fun s hs => ⟨fun hbuf => ?_, fun hbuf => ?_⟩, rfl⟩
  · rw [exec_dfDelim_of_empty hs hbuf, State.dfPut_cont]
    rfl
  · obtain ⟨r, hr⟩ := exists_parse_eq_some s.dfBuf
    refine ⟨r, hr, ?_⟩
    rw [exec_dfDelim_of_nonempty hs hbuf, State.dfPut_emit _ hr]
    rfl

/-- Settles O19: `exec_dfEsc_of_not_pending` and `exec_dfEsc_of_pending`, neither of which tests DF.sync. -/
theorem dfEscPendsOrResyncs : Obligations.DfEscPendsOrResyncs := by
  refine ⟨fun s hs => ⟨fun hesc => ?_, fun hesc => ?_⟩, rfl⟩
  · rw [exec_dfEsc_of_not_pending hs hesc, State.dfPut_cont]
    rfl
  · rw [exec_dfEsc_of_pending hs hesc, State.dfPut_resyncError]
    rfl

/-- Settles O22: DF.EOS renews and halts; a DF operation that goes on would need DF to run. -/
theorem dfEosHaltsWithoutReport : Obligations.DfEosHaltsWithoutReport := by
  refine ⟨fun s hs => ⟨_, exec_dfEos_next_iff.mpr ⟨hs, rfl⟩, rfl, fun i u hi h => ?_⟩, fun w hw => ?_⟩
  · obtain ⟨-, hf⟩ := dfRunning_of_exec_df_next hi h
    cases hf
  · simp [decode_dfIn, cmdField, hw]

/-- Settles O60: DF.LIT with an escape pending appends `unescape b`, which inverts bit 5 of `b`. -/
theorem dfUnescapesByXor : Obligations.DfUnescapesByXor := by
  refine ⟨fun b s _ hs hsync hesc hroom => ?_, fun b => ⟨unescape_eq_xor b, unescape_unescape b⟩, rfl, rfl,
    unescape_ne_or_escapeMask_iff, fun b hb => ⟨or_escapeMask_eq_self hb, unescape_eq_sub hb⟩⟩
  rw [exec_dfLit_of_room hs b fun _ => hroom, State.dfPut_cont]
  exact ⟨_, rfl, by simp [State.acceptLiteral_eq, State.literalValue, hsync, hesc]⟩

end Sys2Proof.Machine

/-! Family 43_frame_parser: the payload region by offsets of the frame, what the decoders answer on it, and the result of FV.PARSE
stage by stage. -/

namespace Sys2Proof.Machine

/-! ### Reads and slices of a frame -/

/-- A FrameRead inside the frame, as a total look-up (20_memory R43). -/
theorem frameRead_eq_getD {f : List Byte} {i : Nat} (h : i < f.length) : frameRead f i = some (f.getD i 0) := by
  rw [frameRead_of_lt h, List.getD_eq_getElem f 0 h]

/-- A slice that runs to the end drops the bytes before it (00_scope R6). -/
theorem slice_length (p : List Byte) (a : Nat) : slice p a p.length = p.drop a := by
  rw [slice, List.take_length]

/-- A slice that runs to the last byte leaves that byte out (00_scope R6). -/
theorem slice_length_sub_one (f : List Byte) (a : Nat) : slice f a (f.length - 1) = (f.drop a).dropLast := by
  rw [slice, List.dropLast_eq_take, List.length_drop, List.drop_take, Nat.sub_right_comm]

/-- The payload region leaves out the header and the checksum byte (43_frame_parser R176). -/
theorem payloadRegion_eq (f : List Byte) : payloadRegion f = (f.drop 7).dropLast :=
  slice_length_sub_one f 7

@[simp] theorem payloadRegion_length (f : List Byte) : (payloadRegion f).length = f.length - 8 := by
  rw [payloadRegion_eq, List.length_dropLast, List.length_drop, Nat.sub_sub]

/-- A byte of the payload stands seven places further on in the frame (43_frame_parser R176). -/
theorem payloadRegion_getD {f : List Byte} {i : Nat} (h : i < f.length - 8) :
    (payloadRegion f).getD i 0 = f.getD (7 + i) 0 := by
  have hi : i < (payloadRegion f).length := by rwa [payloadRegion_length]
  have hf : 7 + i < f.length := by omega
  rw [List.getD_eq_getElem _ _ hi, List.getD_eq_getElem _ _ hf]
  simp [payloadRegion_eq]

/-- The end of the payload is the end of the frame without the checksum byte (43_frame_parser R176). -/
theorem payloadRegion_drop (f : List Byte) (k : Nat) : (payloadRegion f).drop k = (f.drop (7 + k)).dropLast := by
  rw [← slice_length_sub_one, payloadRegion, slice, List.drop_drop]
  rfl

/-! ### The decoders -/

/-- PD.LC on a payload that is too short (44_payload_decode R201). -/
theorem decodeLc_of_short {p : List Byte} (h : p.length < 2) : decodeLc p = some .err := if_pos h

/-- PD.LC on a payload that is long enough (44_payload_decode R201, R203). -/
theorem decodeLc_of_le {p : List Byte} (h : 2 ≤ p.length) :
    decodeLc p = some (.ok (.linkControl (p.getD 1 0) (lcClass (p.getD 1 0)) (p.drop 2))) := by
  rw [decodeLc, if_neg (Nat.not_lt.mpr h), frameRead_eq_getD h, slice_length]
  rfl

/-- PD.GS on a payload that is too short (44_payload_decode R206). -/
theorem decodeGs_of_short {p : List Byte} (h : p.length < 9) : decodeGs p = some .err := if_pos h

/-- PD.GS on a payload that is long enough (44_payload_decode R206 to R210). -/
theorem decodeGs_of_le {p : List Byte} (h : 9 ≤ p.length) :
    decodeGs p = some (.ok (.genericService (le16 (p.getD 1 0) (p.getD 2 0)) (le16 (p.getD 3 0) (p.getD 4 0)) (p.getD 5 0)
      (gsClass (p.getD 5 0)) (p.getD 6 0) (le16 (p.getD 7 0) (p.getD 8 0)) (p.drop 9))) := by
  rw [decodeGs, if_neg (Nat.not_lt.mpr h)]
  simp (disch := omega) only [frameRead_eq_getD, slice_length]
  rfl

/-! ### The decoders on a frame's payload region -/

/-- PD.LC on a payload region, by offsets of the frame (43_frame_parser R178, 44_payload_decode R201). -/
theorem decodeLc_payloadRegion {f : List Byte} (h : ¬f.length - 8 < 2) :
    decodeLc (payloadRegion f) =
      some (.ok (.linkControl (f.getD 8 0) (lcClass (f.getD 8 0)) ((f.drop 9).dropLast))) := by
  rw [decodeLc_of_le (by rw [payloadRegion_length]; omega), payloadRegion_drop, payloadRegion_getD (by omega)]

/-- PD.RD on a payload region, by offsets of the frame (43_frame_parser R178, 44_payload_decode R205). -/
theorem decodeRd_payloadRegion (f : List Byte) :
    decodeRd (payloadRegion f) = some (.ok (.rawData ((f.drop 7).dropLast))) := by
  rw [decodeRd, payloadRegion_eq]

/-- PD.GS on a payload region, by offsets of the frame (43_frame_parser R178, 44_payload_decode R206). -/
theorem decodeGs_payloadRegion {f : List Byte} (h : ¬f.length - 8 < 9) :
    decodeGs (payloadRegion f) =
      some (.ok (.genericService (le16 (f.getD 8 0) (f.getD 9 0)) (le16 (f.getD 10 0) (f.getD 11 0)) (f.getD 12 0)
        (gsClass (f.getD 12 0)) (f.getD 13 0) (le16 (f.getD 14 0) (f.getD 15 0)) ((f.drop 16).dropLast))) := by
  rw [decodeGs_of_le (by rw [payloadRegion_length]; omega), payloadRegion_drop]
  simp (disch := omega) only [payloadRegion_getD]

/-! ### The stages of FV.PARSE -/

/-- The illegal flags by bits: notification is bit 2, master bit 1 (43_frame_parser R174, R175). -/
theorem decodeFlags_illegal_iff (fl : Byte) :
    (decodeFlags fl).illegal = true ↔ fl.getLsbD 2 = true ∧ fl.getLsbD 1 = true :=
  Bool.and_eq_true_iff

/-- Stage 1 (43_frame_parser R171). -/
theorem parse_of_short {f : List Byte} (hlen : f.length < 8) : parse f = some (.tooShort f) := if_pos hlen

section Stages

variable {f : List Byte} (hlen : ¬f.length < 8)
include hlen

/-- Stage 2 (43_frame_parser R172). -/
theorem parse_of_badChecksum (hcrc : compute f ≠ 0x00) : parse f = some (.badChecksum f) :=
  (if_neg hlen).trans (if_pos hcrc)

variable (hcrc : ¬compute f ≠ 0x00)
include hcrc

/-- Stages 3 to 7, with the header bytes read (43_frame_parser R173 to R179). -/
theorem parse_of_checksumOk :
    parse f = if (decodeFlags (f.getD 1 0)).illegal = true then some (.invalidFlagCombination f)
      else (decoderOf (f.getD 5 0)).elim (some (.unsupportedProfile f)) fun d =>
        (runDecoder d (payloadRegion f)).map (assembleFrame f (f.getD 0 0) (decodeFlags (f.getD 1 0)) (f.getD 5 0)) := by
  rw [parse, if_neg hlen, if_neg hcrc]
  simp (disch := omega) only [frameRead_eq_getD, Option.bind_eq_bind, Option.bind_some]
  cases decoderOf (f.getD 5 0) <;> rfl

/-- Stage 4 (43_frame_parser R175). -/
theorem parse_of_illegalFlags (hflags : (f.getD 1 0).getLsbD 2 = true ∧ (f.getD 1 0).getLsbD 1 = true) :
    parse f = some (.invalidFlagCombination f) := by
  rw [parse_of_checksumOk hlen hcrc, if_pos ((decodeFlags_illegal_iff _).mpr hflags)]

variable (hflags : ¬((f.getD 1 0).getLsbD 2 = true ∧ (f.getD 1 0).getLsbD 1 = true))
include hflags

/-- Stage 6 on a profile without a decoder (43_frame_parser R177). -/
theorem parse_of_unsupportedProfile (hprofile : decoderOf (f.getD 5 0) = none) :
    parse f = some (.unsupportedProfile f) := by
  rw [parse_of_checksumOk hlen hcrc, if_neg (mt (decodeFlags_illegal_iff _).mp hflags), hprofile]
  rfl

/-- Stages 6 and 7 on a profile whose decoder answers `r` (43_frame_parser R177 to R179). -/
theorem parse_of_decoder {d : PayloadDecoder} {r : PdResult} (hprofile : decoderOf (f.getD 5 0) = some d)
    (hr : runDecoder d (payloadRegion f) = some r) :
    parse f = some (assembleFrame f (f.getD 0 0) (decodeFlags (f.getD 1 0)) (f.getD 5 0) r) := by
  rw [parse_of_checksumOk hlen hcrc, if_neg (mt (decodeFlags_illegal_iff _).mp hflags), hprofile, Option.elim_some, hr,
    Option.map_some]

end Stages

/-! ### The statement -/

/-- Settles O30: FV.PARSE reports what `parse` answers, and each branch of the statement is one `parse_of_` lemma, with the decoder's
answer on the payload region where the profile has one. -/
theorem fvParseStagesDecideTheResult : Obligations.FvParseStagesDecideTheResult := by
  intro f s hs
  refine exec_fvParse_of_running hs ?_
  have hshort {k : Nat} (hp : f.length - 8 < k) : (payloadRegion f).length < k := by rwa [payloadRegion_length]
  split_ifs with hlen hcrc hflags hlc hp hrd hgs hp
  · exact parse_of_short hlen
  · exact parse_of_badChecksum hlen hcrc
  · exact parse_of_illegalFlags hlen hcrc hflags
  · exact parse_of_decoder hlen hcrc hflags (d := .lc) (by rw [hlc]; rfl) (decodeLc_of_short (hshort hp))
  · exact parse_of_decoder hlen hcrc hflags (d := .lc) (by rw [hlc]; rfl) (decodeLc_payloadRegion hp)
  · exact parse_of_decoder hlen hcrc hflags (d := .rd) (by rw [hrd]; rfl) (decodeRd_payloadRegion f)
  · exact parse_of_decoder hlen hcrc hflags (d := .gs) (by rw [hgs]; rfl) (decodeGs_of_short (hshort hp))
  · exact parse_of_decoder hlen hcrc hflags (d := .gs) (by rw [hgs]; rfl) (decodeGs_payloadRegion hp)
  · exact parse_of_unsupportedProfile hlen hcrc hflags (by rw [decoderOf, if_neg hlc, if_neg hrd, if_neg hgs])

end Sys2Proof.Machine

/-! Family 44_payload_decode: the open codes, which are pairwise distinct, the classes they give, the 16-bit fields as numbers, and the
payloads on which a decoder errs. -/

namespace Sys2Proof.Config

/-- A code made from a seed differs from the code it must not be (00_scope R5). -/
theorem otherThan_ne (a seed : Byte) : otherThan a seed ≠ a := by
  unfold otherThan
  split_ifs with h
  · bv_omega
  · exact h

/-- A code made from a seed differs from both codes it must not be (00_scope R5). -/
theorem otherThanBoth_ne (a b seed : Byte) : otherThanBoth a b seed ≠ a ∧ otherThanBoth a b seed ≠ b := by
  unfold otherThanBoth
  split_ifs with h hb
  · subst hb
    exact ⟨by bv_omega, by bv_omega⟩
  · exact ⟨by bv_omega, hb⟩
  · exact not_or.mp h

end Sys2Proof.Config

namespace Sys2Proof.Machine

/-! ### The classes of message types -/

/-- LC_PROFILES_CODE is Profiles (44_payload_decode R204). -/
@[simp] theorem lcClass_profilesCode : lcClass Config.lcProfilesCode = .profiles := if_pos rfl

/-- LC_STATUS_CODE is Status (44_payload_decode R204). -/
@[simp] theorem lcClass_statusCode : lcClass Config.lcStatusCode = .status :=
  (if_neg (Config.otherThan_ne _ _)).trans (if_pos rfl)

/-- LC_BAUDRATE_CODE is BaudRate (44_payload_decode R204). -/
@[simp] theorem lcClass_baudRateCode : lcClass Config.lcBaudRateCode = .baudRate := by
  obtain ⟨hprofiles, hstatus⟩ := Config.otherThanBoth_ne Config.lcProfilesCode Config.lcStatusCode Config.lcBaudRateSeed
  exact (if_neg hprofiles).trans ((if_neg hstatus).trans (if_pos rfl))

/-- Every other byte is Unknown to LinkControl (44_payload_decode R204). -/
theorem lcClass_of_ne {t : Byte} (hstatus : t ≠ Config.lcStatusCode) (hprofiles : t ≠ Config.lcProfilesCode)
    (hbaud : t ≠ Config.lcBaudRateCode) : lcClass t = .unknown := by
  rw [lcClass, if_neg hprofiles, if_neg hstatus, if_neg hbaud]

/-- GS_READ_CODE is Read (44_payload_decode R211). -/
@[simp] theorem gsClass_readCode : gsClass Config.gsReadCode = .read := if_pos rfl

/-- GS_WRITE_CODE is Write (44_payload_decode R211). -/
@[simp] theorem gsClass_writeCode : gsClass Config.gsWriteCode = .write :=
  (if_neg (Config.otherThan_ne _ _)).trans (if_pos rfl)

/-- GS_WRITEREAD_CODE is WriteRead (44_payload_decode R211). -/
@[simp] theorem gsClass_writeReadCode : gsClass Config.gsWriteReadCode = .writeRead := by
  obtain ⟨hread, hwrite⟩ := Config.otherThanBoth_ne Config.gsReadCode Config.gsWriteCode Config.gsWriteReadSeed
  exact (if_neg hread).trans ((if_neg hwrite).trans (if_pos rfl))

/-- Every other byte is Unknown to GenericService (44_payload_decode R211). -/
theorem gsClass_of_ne {t : Byte} (hread : t ≠ Config.gsReadCode) (hwrite : t ≠ Config.gsWriteCode)
    (hwriteRead : t ≠ Config.gsWriteReadCode) : gsClass t = .unknown := by
  rw [gsClass, if_neg hread, if_neg hwrite, if_neg hwriteRead]

/-! ### Fields and lengths -/

/-- The byte at the higher offset is the high byte of the field (44_payload_decode R207). -/
theorem le16_eq_append (lo hi : Byte) : le16 lo hi = hi ++ lo := by
  rw [le16, BitVec.append_def, BitVec.shiftLeftZeroExtend_eq, BitVec.setWidth'_eq, BitVec.or_comm]

/-- A 16-bit field is the little-endian number of its bytes (44_payload_decode R207). -/
theorem le16_toNat (lo hi : Byte) : (le16 lo hi).toNat = lo.toNat + 256 * hi.toNat := by
  rw [le16_eq_append, BitVec.toNat_append, ← Nat.shiftLeft_add_eq_or_of_lt lo.isLt, Nat.shiftLeft_eq]
  omega

/-- PD.LC errs exactly on a payload shorter than its header (44_payload_decode R201, R204). -/
theorem decodeLc_eq_err_iff (p : List Byte) : decodeLc p = some .err ↔ p.length < 2 := by
  refine ⟨fun h => ?_, decodeLc_of_short⟩
  by_contra hp
  rw [decodeLc_of_le (Nat.not_lt.mp hp)] at h
  cases h

/-- PD.GS errs exactly on a payload shorter than its header (44_payload_decode R206, R211). -/
theorem decodeGs_eq_err_iff (p : List Byte) : decodeGs p = some .err ↔ p.length < 9 := by
  refine ⟨fun h => ?_, decodeGs_of_short⟩
  by_contra hp
  rw [decodeGs_of_le (Nat.not_lt.mp hp)] at h
  cases h

/-! ### The statements -/

/-- Settles O33: `decodeLc_of_short` and `decodeLc_of_le` are the two sides of the length check. -/
theorem linkControlDecodes : Obligations.LinkControlDecodes :=
  fun _ => ⟨decodeLc_of_short, decodeLc_of_le⟩

/-- Settles O34: PD.RD has no length check and reads no byte, so its answer is the payload by definition. -/
theorem rawDataDecodesVerbatim : Obligations.RawDataDecodesVerbatim :=
  fun _ => rfl

/-- Settles O35: the fields of `decodeGs_of_le`, of which `le16_toNat` gives the three 16-bit ones as numbers. -/
theorem genericServiceDecodes : Obligations.GenericServiceDecodes :=
  ⟨fun _ => ⟨decodeGs_of_short, fun h => ⟨_, _, _, decodeGs_of_le h, le16_toNat _ _, le16_toNat _ _, le16_toNat _ _⟩⟩,
    by decide⟩

/-- Settles O37: each code by its `lcClass_` or `gsClass_` lemma, every other byte by `lcClass_of_ne` or `gsClass_of_ne`, and no class
enters into whether a decoder errs. -/
theorem messageTypesClassify : Obligations.MessageTypesClassify :=
  ⟨lcClass_statusCode, lcClass_profilesCode, lcClass_baudRateCode, fun _ => lcClass_of_ne,
    gsClass_readCode, gsClass_writeCode, gsClass_writeReadCode, fun _ => gsClass_of_ne,
    fun p => ⟨decodeLc_eq_err_iff p, decodeGs_eq_err_iff p⟩⟩

end Sys2Proof.Machine

/-! Family 60_exceptions: every operation that goes on needs the block to run, and so FAULT loses no name but by RESET. -/

namespace Sys2Proof.Machine

/-! ### What stops a stuck block -/

/-- Every operation of every unit goes on only in a running block (60_exceptions R232, R233). -/
theorem running_of_exec_next {i : Instr} {s t : State} (h : exec i s = .next t) : s.Running := by
  cases i with
  | dfIdle | dfDelim | dfEsc | dfLit b | dfEos => exact (dfRunning_of_exec_df_next rfl h).1
  | _ => exact (State.whenRunning_next_iff.mp h).1

/-- Without RESET a step that goes on is SRC_FAIL's or one of a running block (60_exceptions R231, R232). -/
theorem step_next_srcFail_or_running {s t : State} (h : step s = .next t) (hr : ∀ rest, s.inputs ≠ .reset :: rest) :
    (∃ rest, t = (s.withInputs rest).raiseFault .sourceFailure) ∨ s.Running := by
  rcases step_next_cases h with ⟨rest, hi, -⟩ | ⟨rest, -, ht⟩ | ⟨_, _, rest, -, -, he⟩ | ⟨_, _, _, -, -, hrun, -⟩
  · exact absurd hi (hr rest)
  · exact .inl ⟨rest, ht⟩
  · exact .inr (running_of_exec_next (s := s.withInputs rest) he)
  · exact .inr hrun

/-! ### The statement -/

/-- Settles O47: an operation that goes on, and a good end, need the block to run, which is an empty FAULT; without RESET a step is
SRC_FAIL's, which adds a name, or one of a running block, which has no name to lose. -/
theorem faultsAreSticky : Obligations.FaultsAreSticky := by
  refine ⟨fun s t i hs h => hs (running_of_exec_next h).1, fun s t h hr => ?_, ?_⟩
  · rcases step_next_srcFail_or_running h hr with ⟨rest, rfl⟩ | ⟨hempty, -⟩
    · exact FaultSet.insert_keeps s.fault .sourceFailure
    · simp [hempty, FaultSet.empty]
  · rintro s hs ⟨-, hempty, -⟩
    exact hs hempty

end Sys2Proof.Machine

/-! Family 70_reset_and_hazards: the step that takes RESET, and what it answers. -/

namespace Sys2Proof.Machine

/-- With RESET at the head of the offers the step goes on, whether the block runs, is faulted, refused or halted (70_reset R250). -/
theorem step_eq_resetNow_of_reset_offered {s : State} {rest : List HostInput} (hi : s.inputs = .reset :: rest) :
    step s = .next (s.withInputs rest).resetNow := by
  simp only [step, hi, State.takeReset]

/-- Settles O45: the answer is `resetNow`, whose fields are the reset values and whose history is empty, a prefix of any other. -/
theorem resetWritesEveryElement : Obligations.ResetWritesEveryElement := by
  intro s rest hi
  have hevents : (s.withInputs rest).resetNow.events <+: s.events := by
    rw [State.resetNow_events]
    exact List.nil_prefix
  exact ⟨_, step_eq_resetNow_of_reset_offered hi, State.resetNow_dfEsc _, State.resetNow_dfSync _, State.resetNow_dfBuf _,
    State.resetNow_dfHalted _, State.resetNow_crcAcc _, State.resetNow_fault _, State.resetNow_refused _, hevents⟩

end Sys2Proof.Machine

/-! Family other, encodings: the word of a well-formed operation decodes to it, and what decodes is a well-formed operation of a port. -/

namespace Sys2Proof

/-! ### The fields of an encoded word -/

/-- A word of a row with mask 0x300 has the row's cmd field. -/
theorem cmdField_of_and_cmdMask {w : PortBits} {c : BitVec 2} (h : w &&& 0x300 = c ++ (0 : Byte)) : cmdField w = c := by
  rwa [and_cmdMask, BitVec.append_left_inj] at h

/-! ### Decoding and encoding -/

/-- A DF.LIT is well formed for every byte but the two special ones (30_encoding R60). -/
theorem Instr.wf_dfLit_iff {b : Byte} : (Instr.dfLit b).wf = true ↔ b ≠ 0x7E ∧ b ≠ 0x7D := by
  simp [Instr.wf]

/-- A port word stands for the operation that the decoder of the ports gives it. -/
theorem decodeWord_port_eq_some_iff {w : PortWord} {i : Instr} : decodeWord (.port w) = some i ↔ decode w = .ok i := by
  cases h : decode w <;> simp [decodeWord, h]

/-- The operations that a port drives: the well-formed ones but the payload decoders (00_scope R10). -/
def Instr.OnPort (i : Instr) : Prop := i.wf = true ∧ Machine.unitOf i ≠ .pd

/-- What a port word decodes to is an operation that a port drives (30_encoding R78, 00_scope R10). -/
theorem onPort_of_decode {w : PortWord} {i : Instr} (h : decode w = .ok i) : i.OnPort := by
  cases w with
  | crcIn w =>
    rw [decode_crcIn] at h
    split_ifs at h <;> cases h <;> exact ⟨rfl, nofun⟩
  | encIn w =>
    rw [decode_encIn] at h
    split_ifs at h <;> cases h <;> exact ⟨rfl, nofun⟩
  | dfIn w =>
    rw [decode_dfIn] at h
    split_ifs at h with _ _ hdelim hesc <;> cases h
    case neg => exact ⟨Instr.wf_dfLit_iff.mpr ⟨hdelim, hesc⟩, nofun⟩
    all_goals exact ⟨rfl, nofun⟩
  | fvIn req f => cases req <;> cases h; exact ⟨rfl, nofun⟩

/-- CRC_IN's word of a byte (30_encoding R72). -/
theorem decode_crcIn_byteWord (b : Byte) : decode (.crcIn (0x200 ||| b.setWidth 10)) = .ok (.crcByte b) := by
  obtain ⟨hcmd, hbyte⟩ := Laws.TableRow.byte_word b
  rw [decode_crcIn, cmdField_of_and_cmdMask (c := 2) hcmd, hbyte]
  rfl

/-- CRC_IN's word of a nibble (30_encoding R72). -/
theorem decode_crcIn_nibbleWord (n : Nibble) : decode (.crcIn (0x300 ||| n.setWidth 10)) = .ok (.crcNib n) := by
  obtain ⟨hcmd, hnibble⟩ := Laws.TableRow.nibble_word n
  rw [decode_crcIn, cmdField_of_and_cmdMask (c := 3) hcmd, hnibble]
  rfl

/-- ENC_IN's word of a byte (30_encoding R71). -/
theorem decode_encIn_byteWord (b : Byte) : decode (.encIn (0x200 ||| b.setWidth 10)) = .ok (.encData b) := by
  obtain ⟨hcmd, hbyte⟩ := Laws.TableRow.byte_word b
  rw [decode_encIn, cmdField_of_and_cmdMask (c := 2) hcmd, hbyte]
  rfl

/-- DF_IN's word of a literal byte (30_encoding R70). -/
theorem decode_dfIn_literalWord {b : Byte} (hwf : (Instr.dfLit b).wf = true) :
    decode (.dfIn (0x100 ||| b.setWidth 10)) = .ok (.dfLit b) := by
  obtain ⟨hdelim, hesc⟩ := Instr.wf_dfLit_iff.mp hwf
  obtain ⟨hcmd, hbyte⟩ := Laws.TableRow.literal_word b
  rw [decode_dfIn, cmdField_of_and_cmdMask (c := 1) hcmd, hbyte, if_neg (by decide), if_pos rfl, if_neg hdelim, if_neg hesc]

/-- The word of an operation that a port drives decodes to it (30_encoding R81). -/
theorem decode_offerOf_encode {i : Instr} (hi : i.OnPort) : decode (Machine.offerOf (encode i)) = .ok i := by
  obtain ⟨hwf, hunit⟩ := hi
  cases i with
  | pdLc p | pdRd p | pdGs p => exact absurd rfl hunit
  | crcByte b => exact decode_crcIn_byteWord b
  | crcNib n => exact decode_crcIn_nibbleWord n
  | encData b => exact decode_encIn_byteWord b
  | dfLit b => exact decode_dfIn_literalWord hwf
  | _ => rfl

/-- The word of a well-formed operation decodes to it: on a port, or at the profile byte of a payload decoder (30_encoding R81). -/
theorem decodeWord_encode {i : Instr} (hwf : i.wf = true) : decodeWord (encode i) = some i := by
  cases i with
  | pdLc p | pdRd p | pdGs p => rfl
  | _ => exact decodeWord_port_eq_some_iff.mpr (decode_offerOf_encode ⟨hwf, nofun⟩)

/-- What a word of the opcode table decodes to is well formed (30_encoding R60). -/
theorem wf_of_decodeWord {iw : InstrWord} {i : Instr} (h : decodeWord iw = some i) : i.wf = true := by
  cases iw with
  | port w => exact (onPort_of_decode (decodeWord_port_eq_some_iff.mp h)).1
  | profile key p =>
    obtain ⟨d, -, rfl⟩ := Option.map_eq_some_iff.mp h
    cases d <;> rfl

/-! ### The statements -/

/-- Settles O41: `decodeWord_encode`, `wf_of_decodeWord`, and the definition of `decodeWord` on a port word. -/
theorem decodeEncodeAgree : Obligations.DecodeEncodeAgree :=
  ⟨fun _ => decodeWord_encode, fun _ _ => wf_of_decodeWord, fun _ _ => decodeWord_port_eq_some_iff⟩

/-- Settles O40: each word's cmd and byte fields, by evaluation of the rows. -/
theorem listedWordsDecode : Obligations.ListedWordsDecode :=
  ⟨rfl, rfl, rfl, rfl, rfl, rfl, rfl, rfl, rfl, rfl, rfl⟩

end Sys2Proof

/-! Family other, operations: what each unit's operations do where the block runs, and the frames over every operation. -/

namespace Sys2Proof.Machine

/-! ### The operations of each unit in a running block -/

/-- A checksum operation writes a function of the accumulator to it (40_checksum R102 to R105). -/
theorem exists_exec_crc_eq {i : Instr} (hi : unitOf i = .crc) :
    ∃ g : Byte → Byte, ∀ s : State, s.Running → exec i s = .next (s.setAcc (g s.crcAcc)) := by
  cases i with
  | crcIdle => exact ⟨id, fun _ hs => exec_crcIdle_of_running hs⟩
  | crcInit => exact ⟨fun _ => 0x00, fun _ hs => exec_crcInit_of_running hs⟩
  | crcByte b => exact ⟨(crcByteStep · b), fun _ hs => exec_crcByte_of_running hs b⟩
  | crcNib n => exact ⟨(crcNibStep · n), fun _ hs => exec_crcNib_of_running hs n⟩
  | _ => cases hi

/-- An encoder operation places the same bytes on ENC_OUT from every state (41_encoder R120). -/
theorem exists_exec_enc_eq {i : Instr} (hi : unitOf i = .enc) :
    ∃ bs, ∀ s : State, s.Running → exec i s = .next (s.out (.encOut bs)) := by
  cases i with
  | encIdle => exact ⟨_, fun _ => exec_encIdle_of_running⟩
  | encDelim => exact ⟨_, fun _ => exec_encDelim_of_running⟩
  | encData b => exact ⟨_, fun _ hs => exec_encData_of_running hs b⟩
  | _ => cases hi

/-- FV.PARSE reports the same result from every state (43_frame_parser R170). -/
theorem exists_exec_fv_eq {i : Instr} (hi : unitOf i = .fv) :
    ∃ r, ∀ s : State, s.Running → exec i s = .next (s.report r) := by
  cases i with
  | fvParse f =>
    obtain ⟨r, hr⟩ := exists_parse_eq_some f
    exact ⟨r, fun _ hs => exec_fvParse_of_running hs hr⟩
  | _ => cases hi

/-- The PD operation of a decoder hands back what the decoder answers (44_payload_decode R200). -/
theorem exec_operation_of_running {s : State} (hs : s.Running) {d : PayloadDecoder} {p : List Byte} {r : PdResult}
    (hr : runDecoder d p = some r) : exec (d.operation p) s = .next (s.out (.pdReturn r)) := by
  have hexec : exec (d.operation p) s = s.whenRunning (s.handBack (runDecoder d p)) := by cases d <;> rfl
  rw [hexec, State.whenRunning_of_running hs, State.handBack_next_iff]
  exact ⟨r, hr, rfl⟩

/-- A PD operation hands back the same result from every state (44_payload_decode R200). -/
theorem exists_exec_pd_eq {i : Instr} (hi : unitOf i = .pd) :
    ∃ r, ∀ s : State, s.Running → exec i s = .next (s.out (.pdReturn r)) := by
  have hop : ∃ (d : PayloadDecoder) (p : List Byte), i = d.operation p := by
    cases i with
    | pdLc p => exact ⟨.lc, p, rfl⟩
    | pdRd p => exact ⟨.rd, p, rfl⟩
    | pdGs p => exact ⟨.gs, p, rfl⟩
    | _ => cases hi
  obtain ⟨d, p, rfl⟩ := hop
  obtain ⟨r, hr⟩ := exists_runDecoder_eq_some d p
  exact ⟨r, fun _ hs => exec_operation_of_running hs hr⟩

/-! ### The byte operations of the de-framer -/

/-- The writes and the event of a DF byte operation that does not overflow, from `s` to `u`, before the event is placed
(42_deframer R143 to R145). -/
inductive DfMove (s : State) : Instr → State → DfEvent → Prop where
  | synchronize : s.dfBuf = [] → DfMove s .dfDelim s.synchronize .cont
  | emit : s.dfBuf ≠ [] → DfMove s .dfDelim s.renew (.emit s.dfBuf)
  | pend : s.dfEsc = false → DfMove s .dfEsc (s.setEsc true) .cont
  | resync : s.dfEsc = true → DfMove s .dfEsc s.renew .resyncError
  | accept (b : Byte) : (s.dfSync = true → FitsBuffer (s.dfBuf.length + 1)) → DfMove s (.dfLit b) (s.acceptLiteral b) .cont

/-- A DF byte operation makes its move and places the event. -/
theorem DfMove.exec_eq {i : Instr} {s u : State} {e : DfEvent} (h : DfMove s i u e) (hs : s.DfRunning) :
    exec i s = u.dfPut e := by
  cases h with
  | synchronize hbuf => exact exec_dfDelim_of_empty hs hbuf
  | emit hbuf => exact exec_dfDelim_of_nonempty hs hbuf
  | pend hesc => exact exec_dfEsc_of_not_pending hs hesc
  | resync hesc => exact exec_dfEsc_of_pending hs hesc
  | accept b hroom => exact exec_dfLit_of_room hs b hroom

/-- A move writes the context only (10_state R20). -/
theorem DfMove.frame {i : Instr} {s u : State} {e : DfEvent} (h : DfMove s i u e) :
    u = { s with dfEsc := u.dfEsc, dfSync := u.dfSync, dfBuf := u.dfBuf } := by
  cases h with
  | accept b _ => rw [State.acceptLiteral_eq]
  | _ => rfl

/-- No empty frame is emitted (42_deframer R154). -/
theorem DfMove.emit_ne_nil {i : Instr} {s u : State} {f : List Byte} (h : DfMove s i u (.emit f)) : f ≠ [] := by
  cases h with
  | emit hbuf => exact hbuf

/-- Everything a DF operation can do where DF runs: nothing, the end of the stream, an overflow, or a move and its event
(42_deframer R142 to R148). -/
theorem exec_df_cases {i : Instr} {s : State} (hi : unitOf i = .df) (hs : s.DfRunning) :
    (i = .dfIdle ∧ exec i s = .next s) ∨ (i = .dfEos ∧ exec i s = .next s.renew.halt) ∨
    (∃ b, i = .dfLit b ∧ s.dfSync = true ∧ ¬FitsBuffer (s.dfBuf.length + 1) ∧
      exec i s = .next (s.raiseFault .bufferOverflow)) ∨
    ∃ u e, DfMove s i u e ∧ exec i s = u.dfPut e := by
  have hmove {u : State} {e : DfEvent} (h : DfMove s i u e) : ∃ u e, DfMove s i u e ∧ exec i s = u.dfPut e :=
    ⟨u, e, h, h.exec_eq hs⟩
  cases i with
  | dfIdle => exact .inl ⟨rfl, exec_dfIdle_of_dfRunning hs⟩
  | dfEos => exact .inr (.inl ⟨rfl, exec_dfEos_next_iff.mpr ⟨hs, rfl⟩⟩)
  | dfDelim =>
    by_cases hbuf : s.dfBuf = []
    · exact .inr (.inr (.inr (hmove (.synchronize hbuf))))
    · exact .inr (.inr (.inr (hmove (.emit hbuf))))
  | dfEsc =>
    cases hesc : s.dfEsc with
    | false => exact .inr (.inr (.inr (hmove (.pend hesc))))
    | true => exact .inr (.inr (.inr (hmove (.resync hesc))))
  | dfLit b =>
    by_cases hroom : s.dfSync = true → FitsBuffer (s.dfBuf.length + 1)
    · exact .inr (.inr (.inr (hmove (.accept b hroom))))
    · obtain ⟨hsync, hfull⟩ := Classical.not_imp.mp hroom
      exact .inr (.inr (.inl ⟨b, rfl, hsync, hfull, exec_dfLit_of_full hs b hsync hfull⟩))
  | _ => cases hi

/-- What placing an event adds to the history: the event and its report, at once (42_deframer R149). -/
theorem State.dfPut_next_events {u t : State} {e : DfEvent} (h : u.dfPut e = .next t) (hne : ∀ f, e = .emit f → f ≠ []) :
    ∃ es, t.events = u.events ++ es ∧ dfOutOf es = [e] ∧ encOutOf es = [] ∧ reportedAtOnce es = true := by
  rcases State.dfPut_next_iff.mp h with ⟨rfl, rfl⟩ | ⟨f, r, rfl, hr, rfl⟩ | ⟨rfl, rfl⟩
  · exact ⟨[.dfOut .cont], rfl, rfl, rfl, rfl⟩
  · exact ⟨[.dfOut (.emit f), .resOut r], by simp, rfl, rfl, by simp [reportedAtOnce, hr, hne f rfl]⟩
  · exact ⟨[.dfOut .resyncError, .resOut .framingError], by simp, rfl, rfl, rfl⟩

/-- What a DF operation that goes on has done: nothing, the end of the stream, an overflow, or a move with its event and report. -/
theorem exec_df_next_cases {i : Instr} {s t : State} (hi : unitOf i = .df) (h : exec i s = .next t) :
    (i = .dfIdle ∧ t = s) ∨ (i = .dfEos ∧ t = s.renew.halt) ∨
    (∃ b, i = .dfLit b ∧ s.dfSync = true ∧ ¬FitsBuffer (s.dfBuf.length + 1) ∧ t = s.raiseFault .bufferOverflow) ∨
    ∃ u e es, DfMove s i u e ∧ t = { u with events := s.events ++ es } ∧ dfOutOf es = [e] ∧ encOutOf es = [] ∧
      reportedAtOnce es = true := by
  rcases exec_df_cases hi (dfRunning_of_exec_df_next hi h) with
    ⟨rfl, hx⟩ | ⟨rfl, hx⟩ | ⟨b, rfl, hsync, hfull, hx⟩ | ⟨u, e, hm, hx⟩
  all_goals rw [hx] at h
  · exact .inl ⟨rfl, (Host.Outcome.next.inj h).symm⟩
  · exact .inr (.inl ⟨rfl, (Host.Outcome.next.inj h).symm⟩)
  · exact .inr (.inr (.inl ⟨b, rfl, hsync, hfull, (Host.Outcome.next.inj h).symm⟩))
  · obtain ⟨es, hev, hes⟩ := State.dfPut_next_events h (by rintro f rfl; exact hm.emit_ne_nil)
    have hkeep : u.events = s.events := by rw [hm.frame]
    rw [hkeep] at hev
    exact .inr (.inr (.inr ⟨u, e, es, hm, by rw [← hev]; exact State.dfPut_frame h, hes⟩))

/-! ### Frames over every operation -/

/-- An operation of another unit leaves the de-framer, FAULT and REFUSED as they are (00_scope R2). -/
theorem exec_nonDf_next_frame {i : Instr} {s t : State} (hi : unitOf i ≠ .df) (h : exec i s = .next t) :
    t = { s with crcAcc := t.crcAcc, events := t.events } := by
  cases hu : unitOf i with
  | crc => rw [exec_crc_next_frame hu h]
  | enc => rw [exec_enc_next_frame hu h]
  | df => exact absurd hu hi
  | fv => rw [exec_fv_next_frame hu h]
  | pd => rw [exec_pd_next_frame hu h]

/-- A DF operation leaves the accumulator, REFUSED and the offers as they are (00_scope R2). -/
theorem exec_df_next_frame {i : Instr} {s t : State} (hi : unitOf i = .df) (h : exec i s = .next t) :
    t.crcAcc = s.crcAcc ∧ t.refused = s.refused ∧ t.inputs = s.inputs := by
  rcases exec_df_next_cases hi h with ⟨-, rfl⟩ | ⟨-, rfl⟩ | ⟨b, -, -, -, rfl⟩ | ⟨u, e, es, hm, rfl, -⟩
  case inr.inr.inr => rw [hm.frame]; exact ⟨rfl, rfl, rfl⟩
  all_goals exact ⟨rfl, rfl, rfl⟩

/-- Only the checksum unit writes the accumulator (10_state R26). -/
theorem exec_nonCrc_next_crcAcc {i : Instr} {s t : State} (hi : unitOf i ≠ .crc) (h : exec i s = .next t) :
    t.crcAcc = s.crcAcc := by
  cases hu : unitOf i with
  | crc => exact absurd hu hi
  | enc => rw [exec_enc_next_frame hu h]
  | df => exact (exec_df_next_frame hu h).1
  | fv => rw [exec_fv_next_frame hu h]
  | pd => rw [exec_pd_next_frame hu h]

/-- No operation writes REFUSED (10_state R35). -/
theorem exec_next_refused {i : Instr} {s t : State} (h : exec i s = .next t) : t.refused = s.refused := by
  by_cases hu : unitOf i = .df
  · exact (exec_df_next_frame hu h).2.1
  · rw [exec_nonDf_next_frame hu h]

/-- No operation writes the offers (log 1). -/
theorem exec_next_inputs {i : Instr} {s t : State} (h : exec i s = .next t) : t.inputs = s.inputs := by
  by_cases hu : unitOf i = .df
  · exact (exec_df_next_frame hu h).2.2
  · rw [exec_nonDf_next_frame hu h]

/-- A DF operation adds events that place nothing on ENC_OUT and report at once what they put out (42_deframer R149). -/
theorem exec_df_next_events {i : Instr} {s t : State} (hi : unitOf i = .df) (h : exec i s = .next t) :
    ∃ es, t.events = s.events ++ es ∧ encOutOf es = [] ∧ reportedAtOnce es = true := by
  rcases exec_df_next_cases hi h with ⟨-, rfl⟩ | ⟨-, rfl⟩ | ⟨b, -, -, -, rfl⟩ | ⟨u, e, es, -, rfl, -, henc, hrep⟩
  case inr.inr.inr => exact ⟨es, rfl, henc, hrep⟩
  all_goals exact ⟨[], (List.append_nil _).symm, rfl, rfl⟩

/-- Every operation adds events that report at once what they put out (42_deframer R149). -/
theorem exec_next_events {i : Instr} {s t : State} (h : exec i s = .next t) :
    ∃ es, t.events = s.events ++ es ∧ reportedAtOnce es = true := by
  have hs := running_of_exec_next h
  cases hu : unitOf i with
  | crc => exact ⟨[], by rw [exec_crc_next_frame hu h, List.append_nil], rfl⟩
  | enc =>
    obtain ⟨bs, hx⟩ := exists_exec_enc_eq hu
    cases (hx s hs).symm.trans h
    exact ⟨[.encOut bs], rfl, rfl⟩
  | df =>
    obtain ⟨es, hev, -, hrep⟩ := exec_df_next_events hu h
    exact ⟨es, hev, hrep⟩
  | fv =>
    obtain ⟨r, hx⟩ := exists_exec_fv_eq hu
    cases (hx s hs).symm.trans h
    exact ⟨[.resOut r], rfl, rfl⟩
  | pd =>
    obtain ⟨r, hx⟩ := exists_exec_pd_eq hu
    cases (hx s hs).symm.trans h
    exact ⟨[.pdReturn r], rfl, rfl⟩

end Sys2Proof.Machine

/-! Family other, whole-machine rules on operations: which operations write each element, what a stuck block answers, and that a block
that runs completes every operation. -/

namespace Sys2Proof.Machine

/-! ### Renewals and the writers of each element -/

/-- Only DF operations renew the context (42_deframer R141). -/
theorem unitOf_of_renews {i : Instr} {s : State} (h : Renews i s) : unitOf i = .df := by
  rcases h with ⟨rfl, -⟩ | ⟨rfl, -⟩ | rfl <;> rfl

/-- CRC.INIT, CRC.BYTE and CRC.NIB alone write the accumulator (10_state R26). -/
theorem crcWriter_of_crcAcc_ne {i : Instr} {s t : State} (h : exec i s = .next t) (hne : t.crcAcc ≠ s.crcAcc) :
    i = .crcInit ∨ (∃ b, i = .crcByte b) ∨ ∃ n, i = .crcNib n := by
  have hu : unitOf i = .crc := not_not.mp fun hu => hne (exec_nonCrc_next_crcAcc hu h)
  cases i with
  | crcIdle =>
    rw [exec_crcIdle_of_running (running_of_exec_next h), Host.Outcome.next.injEq] at h
    exact absurd (congrArg State.crcAcc h.symm) hne
  | crcInit => exact .inl rfl
  | crcByte b => exact .inr (.inl ⟨b, rfl⟩)
  | crcNib n => exact .inr (.inr ⟨n, rfl⟩)
  | _ => cases hu

/-- Settles O52: for the other units the frame leaves every element but the accumulator; for DF each way of going on is one case. -/
theorem writersOfEachElement : Obligations.WritersOfEachElement := by
  intro i s t h
  have href := exec_next_refused h
  have hcrc := crcWriter_of_crcAcc_ne h
  by_cases hu : unitOf i = .df
  · have hs := dfRunning_of_exec_df_next hu h
    rcases exec_df_next_cases hu h with ⟨rfl, rfl⟩ | ⟨rfl, rfl⟩ | ⟨b, rfl, -, -, rfl⟩ | ⟨u, e, es, hm, rfl, -⟩
    · simp_all [Renews]
    · simp_all [Renews, FreshContext]
    · refine ⟨fun _ => ⟨⟨b, rfl⟩, ?_⟩, ?_⟩
      · rw [State.raiseFault, hs.1.1]
        rfl
      · simp_all [Renews]
    · cases hm with
      | accept b hroom => simp_all [Renews, State.acceptLiteral_eq]
      | _ => simp_all [Renews]
  · have hrenew : ¬Renews i s := fun hr => hu (unitOf_of_renews hr)
    have hframe := exec_nonDf_next_frame hu h
    generalize t.crcAcc = acc, t.events = ev at hframe
    subst hframe
    simp_all

/-- Settles O51: the frame of each unit's operations, and the port of the events that each unit adds. -/
theorem unitsWriteOnlyTheirOwnState : Obligations.UnitsWriteOnlyTheirOwnState := by
  intro i s t h
  have hs := running_of_exec_next h
  obtain ⟨es, hes, -⟩ := exec_next_events h
  refine ⟨hs, exec_next_inputs h, exec_next_refused h, ⟨es, hes⟩, fun hu => exec_crc_next_frame hu h,
    fun hu => ⟨exec_enc_next_frame hu h, ?_⟩, fun hu => ?_, fun hu => ⟨exec_fv_next_frame hu h, ?_⟩,
    fun hu => ⟨exec_pd_next_frame hu h, ?_⟩⟩
  · obtain ⟨bs, hx⟩ := exists_exec_enc_eq hu
    cases (hx s hs).symm.trans h
    simp [State.dfOut, State.resOut, dfOutOf, resOutOf]
  · obtain ⟨es, hev, henc, -⟩ := exec_df_next_events hu h
    refine ⟨(exec_df_next_frame hu h).1, ?_, (dfRunning_of_exec_df_next hu h).2⟩
    rw [State.encOut, hev, encOutOf_append, henc, List.append_nil, State.encOut]
  · obtain ⟨r, hx⟩ := exists_exec_fv_eq hu
    cases (hx s hs).symm.trans h
    simp [State.dfOut, State.encOut, dfOutOf, encOutOf]
  · obtain ⟨r, hx⟩ := exists_exec_pd_eq hu
    cases (hx s hs).symm.trans h
    simp [State.dfOut, State.encOut, State.resOut, dfOutOf, encOutOf, resOutOf]

/-! ### A stuck block -/

/-- Every operation is guarded by FAULT and REFUSED (60_exceptions R232). -/
theorem exists_exec_eq_whenRunning (i : Instr) (s : State) : ∃ o, exec i s = s.whenRunning o := by
  cases i <;> exact ⟨_, rfl⟩

/-- Every word that is no operation is guarded by FAULT and REFUSED too (60_exceptions R232). -/
theorem exists_takeNonOperation_eq_whenRunning (e : DecodeError) (s : State) :
    ∃ o, s.takeNonOperation e = s.whenRunning o := by
  cases e <;> exact ⟨_, rfl⟩

/-- In a faulted block an operation answers the fault names (log 4). -/
theorem exec_of_fault {s : State} (h : s.fault ≠ FaultSet.empty) (i : Instr) : exec i s = .fault (.blockFaulted s.fault) := by
  obtain ⟨o, ho⟩ := exists_exec_eq_whenRunning i s
  rw [ho, State.whenRunning_of_fault h]

/-- In a refused block an operation answers the refusal (log 5). -/
theorem exec_of_refused {s : State} (hf : s.fault = FaultSet.empty) (h : s.refused = true) (i : Instr) :
    exec i s = .refused .blockRefused := by
  obtain ⟨o, ho⟩ := exists_exec_eq_whenRunning i s
  rw [ho, State.whenRunning_of_refused hf h]

/-- After DF.EOS a DF operation answers that DF is halted (log 6). -/
theorem exec_of_dfHalted {s : State} (hs : s.Running) (h : s.dfHalted = true) {i : Instr} (hi : unitOf i = .df) :
    exec i s = .fault .dfHalted := by
  have hguard : ∃ o, exec i s = s.whenDfRunning o := by
    cases i with
    | dfIdle | dfDelim | dfEsc | dfLit b | dfEos => exact ⟨_, rfl⟩
    | _ => cases hi
  obtain ⟨o, ho⟩ := hguard
  rw [ho, State.whenDfRunning, State.whenRunning_of_running hs, if_pos h]

/-! ### A step by its offer -/

/-- A word that decodes is run on the state without the offer (00_scope R3). -/
theorem step_of_decode_ok {s : State} {w : PortWord} {i : Instr} {rest : List HostInput} (hi : s.inputs = .word w :: rest)
    (hd : decode w = .ok i) : step s = exec i (s.withInputs rest) := by
  simp only [step, hi, hd]

/-- A word that is no operation is taken from the offers (60_exceptions R233, 30_encoding R73). -/
theorem step_of_decode_error {s : State} {w : PortWord} {e : DecodeError} {rest : List HostInput}
    (hi : s.inputs = .word w :: rest) (hd : decode w = .error e) : step s = (s.withInputs rest).takeNonOperation e := by
  simp only [step, hi, hd]

/-- A reserved word, where the block runs, sets REFUSED (60_exceptions R233). -/
theorem step_of_reservedWord {s : State} {w : PortWord} {rest : List HostInput} (hs : s.Running)
    (hi : s.inputs = .word w :: rest) (hd : decode w = .error .reservedWord) :
    step s = .next { s with inputs := rest, refused := true } := by
  rw [step_of_decode_error hi hd]
  exact State.whenRunning_of_running (s := s.withInputs rest) hs _

/-- eos = valid = 1, or cmd = 11 (30_encoding R79). -/
theorem cmdField_eq_three {w : PortBits} (h9 : w.getLsbD 9 = true) (h8 : w.getLsbD 8 = true) : cmdField w = 3 := by
  have heos := eos_eq_false_iff (w := w)
  have hvalid := valid_eq_false_iff (w := w)
  rcases cmdField_cases w with hc | hc | hc | hc <;> simp_all

/-- DF_IN with eos = valid = 1 is reserved (30_encoding R79). -/
theorem decode_dfIn_reserved {w : PortBits} (h9 : w.getLsbD 9 = true) (h8 : w.getLsbD 8 = true) :
    decode (.dfIn w) = .error .reservedWord := by
  rw [decode_dfIn, cmdField_eq_three h9 h8]
  rfl

/-- ENC_IN with cmd = 11 is reserved (30_encoding R79). -/
theorem decode_encIn_reserved {w : PortBits} (h9 : w.getLsbD 9 = true) (h8 : w.getLsbD 8 = true) :
    decode (.encIn w) = .error .reservedWord := by
  rw [decode_encIn, cmdField_eq_three h9 h8]
  rfl

/-- Settles O48: a reserved word is `step_of_reservedWord`; a step without RESET is SRC_FAIL's or one of a running block, and an
operation needs the block to run. -/
theorem reservedWordsAreRefused : Obligations.ReservedWordsAreRefused := by
  refine ⟨fun s w rest hs h9 h8 hi => ?_, fun s t i href h => ?_, fun s t h hr href => ?_⟩
  · rcases hi with ⟨-, hi⟩ | hi
    · exact step_of_reservedWord hs hi (decode_dfIn_reserved h9 h8)
    · exact step_of_reservedWord hs hi (decode_encIn_reserved h9 h8)
  · obtain ⟨-, hrun⟩ := running_of_exec_next h
    simp [href] at hrun
  · rcases step_next_srcFail_or_running h hr with ⟨rest, rfl⟩ | ⟨-, hrun⟩
    · exact href
    · simp [href] at hrun

/-- Settles O50: the guard of every operation and of every word, faults first, then REFUSED, then DF.halted. -/
theorem stuckBlockAnswersByName : Obligations.StuckBlockAnswersByName := by
  refine ⟨fun s i hf => exec_of_fault hf i, fun s w rest hf hi => ?_, fun s i hf href => exec_of_refused hf href i,
    fun s i hs hh hi => exec_of_dfHalted hs hh hi, fun s w rest hs _ h9 h8 hi =>
      step_of_reservedWord hs hi (decode_dfIn_reserved h9 h8)⟩
  cases hd : decode w with
  | ok i =>
    rw [step_of_decode_ok hi hd]
    exact exec_of_fault (s := s.withInputs rest) hf i
  | error e =>
    obtain ⟨o, ho⟩ := exists_takeNonOperation_eq_whenRunning e (s.withInputs rest)
    rw [step_of_decode_error hi hd, ho]
    exact State.whenRunning_of_fault (s := s.withInputs rest) hf o

/-- Settles O42: `step_of_decode_ok`. -/
theorem stepRunsTheDecodedOperation : Obligations.StepRunsTheDecodedOperation :=
  fun _ _ _ _ hi hd => step_of_decode_ok hi hd

/-- Settles O43: FV_IN without a request is taken in a running block, and the answer to no offer is guarded like every other. -/
theorem noOperationAndNoOffer : Obligations.NoOperationAndNoOffer := by
  refine ⟨fun s f rest hs hi => ?_, fun s hs hi => ?_⟩
  · rw [step_of_decode_error hi rfl]
    exact State.whenRunning_of_running (s := s.withInputs rest) hs _
  · simp only [step, hi]
    exact State.whenRunning_of_running hs _

/-- Settles O46: SRC_FAIL is taken before any guard. -/
theorem srcFailRaisesSourceFailure : Obligations.SrcFailRaisesSourceFailure := by
  intro s rest hi
  simp only [step, hi]
  rfl

/-! ### A block that runs -/

/-- An event on DF_OUT can always be placed and reported (42_deframer R149). -/
theorem exists_dfPut_eq_next (u : State) (e : DfEvent) : ∃ t, u.dfPut e = .next t := by
  cases e with
  | cont => exact ⟨_, State.dfPut_cont u⟩
  | emit f =>
    obtain ⟨r, hr⟩ := exists_parse_eq_some f
    exact ⟨_, State.dfPut_emit u hr⟩
  | resyncError => exact ⟨_, State.dfPut_resyncError u⟩

/-- Where the block runs, and DF too for a DF operation, every operation goes on. -/
theorem exists_exec_eq_next {i : Instr} {s : State} (hs : s.Running) (hdf : unitOf i = .df → s.dfHalted = false) :
    ∃ t, exec i s = .next t := by
  cases hu : unitOf i with
  | crc => obtain ⟨g, hx⟩ := exists_exec_crc_eq hu; exact ⟨_, hx s hs⟩
  | enc => obtain ⟨bs, hx⟩ := exists_exec_enc_eq hu; exact ⟨_, hx s hs⟩
  | fv => obtain ⟨r, hx⟩ := exists_exec_fv_eq hu; exact ⟨_, hx s hs⟩
  | pd => obtain ⟨r, hx⟩ := exists_exec_pd_eq hu; exact ⟨_, hx s hs⟩
  | df =>
    rcases exec_df_cases hu ⟨hs, hdf hu⟩ with ⟨-, hx⟩ | ⟨-, hx⟩ | ⟨_, -, -, -, hx⟩ | ⟨u, e, -, hx⟩
    case inr.inr.inr => rw [hx]; exact exists_dfPut_eq_next u e
    all_goals exact ⟨_, hx⟩

/-- Every way FV.PARSE can end: an error of a stage before dispatch, or what the selected decoder's answer gives
(43_frame_parser R171 to R180). -/
theorem parse_cases (f : List Byte) :
    parse f = some (.tooShort f) ∨ parse f = some (.badChecksum f) ∨ parse f = some (.invalidFlagCombination f) ∨
    parse f = some (.unsupportedProfile f) ∨
    (¬f.length < 8 ∧ compute f = 0x00 ∧ ¬((f.getD 1 0).getLsbD 2 = true ∧ (f.getD 1 0).getLsbD 1 = true) ∧
      ∃ d r, decoderOf (f.getD 5 0) = some d ∧ runDecoder d (payloadRegion f) = some r ∧
        parse f = some (assembleFrame f (f.getD 0 0) (decodeFlags (f.getD 1 0)) (f.getD 5 0) r)) := by
  by_cases hlen : f.length < 8
  · exact .inl (parse_of_short hlen)
  by_cases hcrc : compute f ≠ 0x00
  · exact .inr (.inl (parse_of_badChecksum hlen hcrc))
  by_cases hflags : (f.getD 1 0).getLsbD 2 = true ∧ (f.getD 1 0).getLsbD 1 = true
  · exact .inr (.inr (.inl (parse_of_illegalFlags hlen hcrc hflags)))
  cases hd : decoderOf (f.getD 5 0) with
  | none => exact .inr (.inr (.inr (.inl (parse_of_unsupportedProfile hlen hcrc hflags hd))))
  | some d =>
    obtain ⟨r, hr⟩ := exists_runDecoder_eq_some d (payloadRegion f)
    exact .inr (.inr (.inr (.inr
      ⟨hlen, not_not.mp hcrc, hflags, d, r, rfl, hr, parse_of_decoder hlen hcrc hflags hd hr⟩)))

/-- FV never answers FramingError, which is the de-framer's (60_exceptions R223). -/
theorem parse_ne_framingError (f : List Byte) : parse f ≠ some .framingError := by
  rcases parse_cases f with h | h | h | h | ⟨-, -, -, _, r, -, -, h⟩ <;> rw [h]
  case inr.inr.inr.inr => cases r <;> nofun
  all_goals nofun

/-- Settles O54: `parse` and the decoders always answer; an operation goes on where the block and DF run, and elsewhere its guard
answers by another name. -/
theorem frameReadNeverOutOfRange : Obligations.FrameReadNeverOutOfRange := by
  refine ⟨fun f => ?_, fun p => ⟨exists_runDecoder_eq_some .lc p, exists_runDecoder_eq_some .rd p,
    exists_runDecoder_eq_some .gs p⟩, fun i s => ?_⟩
  · obtain ⟨r, hr⟩ := exists_parse_eq_some f
    exact ⟨r, hr, fun h => parse_ne_framingError f (h ▸ hr)⟩
  by_cases hf : s.fault = FaultSet.empty
  case neg => rw [exec_of_fault hf]; nofun
  cases href : s.refused with
  | true => rw [exec_of_refused hf href]; nofun
  | false =>
    by_cases hh : unitOf i = .df ∧ s.dfHalted = true
    · rw [exec_of_dfHalted ⟨hf, href⟩ hh.2 hh.1]; nofun
    · obtain ⟨t, ht⟩ := exists_exec_eq_next ⟨hf, href⟩ fun hi => Bool.eq_false_of_not_eq_true fun h => hh ⟨hi, h⟩
      rw [ht]; nofun

end Sys2Proof.Machine

/-! Family other, independence: no operation reads the offers or the history, none of another unit reads the accumulator, and so
operations of different units commute. -/

namespace Sys2Proof.Machine

/-! ### What an operation does not read -/

/-- The state inside other surroundings: the accumulator and the offers changed, and an earlier history put before its own. -/
def State.around (s : State) (acc : Byte → Byte) (offers : List HostInput → List HostInput) (past : List PortEvent) : State :=
  { s with crcAcc := acc s.crcAcc, inputs := offers s.inputs, events := past ++ s.events }

/-- An outcome with its next state, if it is one, changed. -/
def mapNext (g : State → State) : StepOutcome → StepOutcome
  | .next t => .next (g t)
  | .fault r => .fault r
  | .refused r => .refused r

section Around

variable {acc : Byte → Byte} {offers : List HostInput → List HostInput} {past : List PortEvent}


@[simp] theorem State.around_out (s : State) (e : PortEvent) :
    (s.around acc offers past).out e = (s.out e).around acc offers past := by
  simp [State.around, State.out]

/-- The guard of an operation reads FAULT and REFUSED only (60_exceptions R232). -/
theorem whenRunning_around (s : State) {o o' : StepOutcome} (h : o' = mapNext (·.around acc offers past) o) :
    (s.around acc offers past).whenRunning o' = mapNext (·.around acc offers past) (s.whenRunning o) := by
  rw [h, State.whenRunning, State.whenRunning, apply_ite (mapNext _), apply_ite (mapNext _)]
  rfl

/-- The guard of a DF operation reads DF.halted too (42_deframer R140). -/
theorem whenDfRunning_around (s : State) {o o' : StepOutcome} (h : o' = mapNext (·.around acc offers past) o) :
    (s.around acc offers past).whenDfRunning o' = mapNext (·.around acc offers past) (s.whenDfRunning o) := by
  refine whenRunning_around s ?_
  rw [h, apply_ite (mapNext _)]
  rfl

/-- FV reads its frame only (43_frame_parser R182). -/
theorem validate_around (s : State) (f : List Byte) :
    (s.around acc offers past).validate f = mapNext (·.around acc offers past) (s.validate f) := by
  unfold State.validate
  cases parse f <;> simp [mapNext, State.report]

/-- A payload decoder reads its payload only (44_payload_decode R200). -/
theorem handBack_around (s : State) (r : Option PdResult) :
    (s.around acc offers past).handBack r = mapNext (·.around acc offers past) (s.handBack r) := by
  cases r <;> simp [State.handBack, mapNext]

/-- The pipeline reads the event only (42_deframer R149). -/
theorem dfPut_around (s : State) (e : DfEvent) :
    (s.around acc offers past).dfPut e = mapNext (·.around acc offers past) (s.dfPut e) := by
  cases e with
  | emit f => simp [State.dfPut, State.pipeline, validate_around]
  | _ => simp [State.dfPut, State.pipeline, State.report, mapNext]

/-- DF.LIT's writes read the context only (42_deframer R145). -/
theorem acceptLiteral_around (s : State) (b : Byte) :
    (s.around acc offers past).acceptLiteral b = (s.acceptLiteral b).around acc offers past := by
  rw [State.acceptLiteral_eq, State.acceptLiteral_eq]
  rfl

/-- No operation reads the offers or the history, and only the checksum unit reads the accumulator (00_scope R2, log 3). -/
theorem exec_around {i : Instr} (hacc : unitOf i = .crc → acc = id) (s : State) :
    exec i (s.around acc offers past) = mapNext (·.around acc offers past) (exec i s) := by
  cases i with
  | crcIdle | crcInit | crcByte b | crcNib n =>
    obtain rfl := hacc rfl
    exact whenRunning_around s rfl
  | encIdle | encDelim | encData b => exact whenRunning_around s (congrArg _ (State.around_out s _))
  | dfIdle | dfEos => exact whenDfRunning_around s rfl
  | dfDelim | dfEsc =>
    refine whenDfRunning_around s ?_
    rw [apply_ite (mapNext _), ← dfPut_around, ← dfPut_around]
    rfl
  | dfLit b =>
    refine whenDfRunning_around s ?_
    rw [apply_ite (mapNext _), ← dfPut_around, ← acceptLiteral_around]
    rfl
  | fvParse f => exact whenRunning_around s (validate_around s f)
  | pdLc p | pdRd p | pdGs p => exact whenRunning_around s (handBack_around s _)

/-- Around another state an operation goes on as before. -/
theorem exec_around_next {i : Instr} (hacc : unitOf i = .crc → acc = id) {s t : State} (h : exec i s = .next t) :
    exec i (s.around acc offers past) = .next (t.around acc offers past) := by
  rw [exec_around hacc, h]
  rfl

end Around

/-- No operation reads the offers (log 1). -/
theorem exec_withInputs_next {i : Instr} {s t : State} (h : exec i s = .next t) (l : List HostInput) :
    exec i (s.withInputs l) = .next (t.withInputs l) :=
  exec_around_next (acc := id) (offers := fun _ => l) (past := []) (fun _ => rfl) h

/-! ### The history -/

/-- With a longer past a step that does not take RESET answers the same but for that past (log 3). -/
theorem step_longerPast {s : State} (past : List PortEvent) (hr : ∀ rest, s.inputs ≠ .reset :: rest) :
    step (s.around id id past) = mapNext (·.around id id past) (step s) := by
  have hinputs : (s.around id id past).inputs = s.inputs := rfl
  cases hi : s.inputs with
  | nil =>
    simp only [step, hinputs, hi]
    exact whenRunning_around s rfl
  | cons offer rest =>
    cases offer with
    | reset => exact absurd hi (hr rest)
    | srcFail =>
      simp only [step, hinputs, hi]
      rfl
    | word w =>
      cases hd : decode w with
      | ok i =>
        rw [step_of_decode_ok hi hd, step_of_decode_ok (hinputs.trans hi) hd]
        exact exec_around (offers := id) (past := past) (fun _ => rfl) (s.withInputs rest)
      | error e =>
        rw [step_of_decode_error hi hd, step_of_decode_error (hinputs.trans hi) hd]
        cases e <;> exact whenRunning_around (s.withInputs rest) rfl

/-- Settles O55: `step_longerPast`, at each of the three outcomes. -/
theorem outputHistoryIsWriteOnly : Obligations.OutputHistoryIsWriteOnly := by
  intro s past hr
  have hpast : step { s with events := past ++ s.events } = mapNext (·.around id id past) (step s) := step_longerPast past hr
  refine ⟨fun t h => ?_, fun r h => ?_, fun r h => ?_⟩ <;>
    · rw [hpast, h]
      rfl

/-! ### Operations of different units -/

/-- From `a`, which `i` answers, and from `c`, which `j` answers, the other operation goes on, to states that differ at most in how the
events of different ports are interleaved. -/
def OrdersAgree (i j : Instr) (a c : State) : Prop :=
  ∃ b d, exec j a = .next b ∧ exec i c = .next d ∧ b = { d with events := b.events } ∧ b.dfOut = d.dfOut ∧
    b.encOut = d.encOut ∧ b.resOut = d.resOut

theorem OrdersAgree.symm {i j : Instr} {a c : State} (h : OrdersAgree i j a c) : OrdersAgree j i c a := by
  obtain ⟨b, d, hb, hd, hbd, hdf, henc, hres⟩ := h
  exact ⟨d, b, hd, hb, by rw [hbd], hdf.symm, henc.symm, hres.symm⟩

/-- A checksum operation commutes with one of another unit, which neither reads nor writes the accumulator. -/
theorem commute_crc {i j : Instr} {s a c : State} (hi : unitOf i = .crc) (hj : unitOf j ≠ .crc) (ha : exec i s = .next a)
    (hc : exec j s = .next c) (hrun : c.Running) : OrdersAgree i j a c := by
  obtain ⟨g, hx⟩ := exists_exec_crc_eq hi
  cases (hx s (running_of_exec_next ha)).symm.trans ha
  have hafter : exec i c = .next (c.setAcc (g s.crcAcc)) := by rw [hx c hrun, exec_nonCrc_next_crcAcc hj hc]
  have hbefore : exec j (s.setAcc (g s.crcAcc)) = .next (c.setAcc (g s.crcAcc)) :=
    exec_around_next (acc := fun _ => g s.crcAcc) (offers := id) (past := []) (fun h => absurd h hj) hc
  exact ⟨_, _, hbefore, hafter, rfl, rfl, rfl, rfl⟩

/-- An operation adds the same events to every history. -/
theorem exec_next_anyHistory {i : Instr} {s t : State} (h : exec i s = .next t) :
    ∃ u, exec i { s with events := [] } = .next u ∧ t = { u with events := s.events ++ u.events } ∧
      ∀ past, exec i { s with events := past } = .next { u with events := past ++ u.events } := by
  have hany (past : List PortEvent) :
      exec i { s with events := past } = mapNext (·.around id id past) (exec i { s with events := [] }) := by
    have hx := exec_around (acc := id) (offers := id) (past := past) (i := i) (fun _ => rfl) { s with events := [] }
    simpa [State.around] using hx
  have hs := hany s.events
  rw [show ({ s with events := s.events } : State) = s from rfl, h] at hs
  cases hu : exec i { s with events := [] } with
  | next u =>
    rw [hu] at hs
    exact ⟨u, rfl, Host.Outcome.next.inj hs, fun past => by rw [hany, hu]; rfl⟩
  | fault r => rw [hu] at hs; cases hs
  | refused r => rw [hu] at hs; cases hs

/-- An encoder operation commutes with one of the de-framer, whose events are on other ports. -/
theorem commute_enc {i j : Instr} {s a c : State} (hi : unitOf i = .enc) (hj : unitOf j = .df) (ha : exec i s = .next a)
    (hc : exec j s = .next c) (hrun : c.Running) : OrdersAgree i j a c := by
  obtain ⟨bs, hx⟩ := exists_exec_enc_eq hi
  cases (hx s (running_of_exec_next ha)).symm.trans ha
  obtain ⟨u, hu, rfl, hany⟩ := exec_next_anyHistory hc
  obtain ⟨es, hes, henc, -⟩ := exec_df_next_events hj hu
  rw [List.nil_append] at hes
  refine ⟨_, _, hany (s.events ++ [PortEvent.encOut bs]), hx _ hrun, rfl, ?_, ?_, ?_⟩ <;>
    simp [State.dfOut, State.encOut, State.resOut, dfOutOf, encOutOf, resOutOf, hes, henc]

/-- Settles O53: of two different units among CRC, ENC and DF one is CRC, or they are ENC and DF. -/
theorem unitsCommute : Obligations.UnitsCommute := by
  intro i j s a c hij hifv hipd hjfv hjpd ha hc hra hrc
  suffices OrdersAgree i j a c from this
  cases hi : unitOf i with
  | crc => exact commute_crc hi (fun hj => hij (hi.trans hj.symm)) ha hc hrc
  | enc =>
    cases hj : unitOf j with
    | crc => exact (commute_crc hj (by simp [hi]) hc ha hra).symm
    | enc => exact absurd (hi.trans hj.symm) hij
    | df => exact commute_enc hi hj ha hc hrc
    | fv => exact absurd hj hjfv
    | pd => exact absurd hj hjpd
  | df =>
    cases hj : unitOf j with
    | crc => exact (commute_crc hj (by simp [hi]) hc ha hra).symm
    | enc => exact (commute_enc hj hi hc ha hra).symm
    | df => exact absurd (hi.trans hj.symm) hij
    | fv => exact absurd hj hjfv
    | pd => exact absurd hj hjpd
  | fv => exact absurd hi hifv
  | pd => exact absurd hi hipd

end Sys2Proof.Machine

/-! Family other, invariants: every step keeps the invariant of the de-framer's context and the report invariant. -/

namespace Sys2Proof.Machine

/-! ### The context invariant -/

/-- A fresh context meets the context invariant, whether DF is halted or not (10_state R24). -/
theorem contextInv_of_fresh {s : State} (h : FreshContext s) : ContextInv s := by
  obtain ⟨hesc, hsync, hbuf⟩ := h
  exact ⟨fun hne => absurd hbuf hne, fitsBuffer_of_le (by simp [hbuf]), fun _ => ⟨hesc, hsync, hbuf⟩⟩

/-- A move of the running de-framer keeps the context invariant: DF.LIT appends only where it is synchronised and the byte fits. -/
theorem DfMove.contextInv {i : Instr} {s u : State} {e : DfEvent} (h : DfMove s i u e) (hinv : ContextInv s)
    (hrun : s.dfHalted = false) : ContextInv u := by
  obtain ⟨hsync, hfits, -⟩ := hinv
  have hhalted : u.dfHalted = true → FreshContext u := by
    rw [h.frame]
    intro hh
    rw [hrun] at hh
    cases hh
  cases h with
  | synchronize hbuf => exact ⟨fun _ => rfl, fitsBuffer_of_le (Nat.zero_le _), hhalted⟩
  | emit _ => exact contextInv_of_fresh s.renew_fresh
  | pend _ => exact ⟨hsync, hfits, hhalted⟩
  | resync _ => exact contextInv_of_fresh s.renew_fresh
  | accept b hroom =>
    refine ⟨?_, ?_, hhalted⟩ <;> rw [State.acceptLiteral_eq] <;> by_cases hs : s.dfSync = true
    · exact fun _ => hs
    · simpa [hs] using hsync
    · simpa [hs] using hroom hs
    · simpa [hs] using hfits

/-- Every operation keeps the context invariant. -/
theorem exec_next_contextInv {i : Instr} {s t : State} (hinv : ContextInv s) (h : exec i s = .next t) : ContextInv t := by
  by_cases hu : unitOf i = .df
  · rcases exec_df_next_cases hu h with ⟨-, rfl⟩ | ⟨-, rfl⟩ | ⟨b, -, -, -, rfl⟩ | ⟨u, e, es, hm, rfl, -⟩
    · exact hinv
    · exact contextInv_of_fresh s.renew_fresh
    · exact hinv
    · exact hm.contextInv hinv (dfRunning_of_exec_df_next hu h).2
  · rw [exec_nonDf_next_frame hu h]
    exact hinv

/-- Settles O56: RESET leaves a fresh context, an operation is `exec_next_contextInv`, and nothing else writes the context. -/
theorem stepKeepsContextInvariant : Obligations.StepKeepsContextInvariant := by
  intro s t hinv h
  rcases step_next_cases h with
    ⟨rest, -, rfl⟩ | ⟨rest, -, rfl⟩ | ⟨_, i, rest, -, -, hx⟩ | ⟨_, _, rest, -, -, -, ⟨-, rfl⟩ | ⟨-, rfl⟩⟩
  · exact contextInv_of_fresh ⟨rfl, rfl, rfl⟩
  · exact hinv
  · exact exec_next_contextInv (s := s.withInputs rest) hinv hx
  · exact hinv
  · exact hinv

/-! ### The report invariant -/

/-- A history that reports at once lets what follows it be judged by itself. -/
theorem reportedAtOnce_append {a : List PortEvent} (h : reportedAtOnce a = true) (b : List PortEvent) :
    reportedAtOnce (a ++ b) = reportedAtOnce b := by
  fun_induction reportedAtOnce a <;> simp_all [reportedAtOnce]

/-- Settles O57: RESET begins an empty history, an operation adds events that report at once, and nothing else adds events. -/
theorem stepKeepsReportInvariant : Obligations.StepKeepsReportInvariant := by
  intro s t hinv h
  rcases step_next_cases h with
    ⟨rest, -, rfl⟩ | ⟨rest, -, rfl⟩ | ⟨_, i, rest, -, -, hx⟩ | ⟨_, _, rest, -, -, -, ⟨-, rfl⟩ | ⟨-, rfl⟩⟩
  · rfl
  · exact hinv
  · obtain ⟨es, hev, hrep⟩ := exec_next_events hx
    rw [ReportInv, hev]
    exact (reportedAtOnce_append hinv es).trans hrep
  · exact hinv
  · exact hinv

/-- Settles O58: reset leaves a fresh context and an empty history. -/
theorem resetMeetsTheInvariants : Obligations.ResetMeetsTheInvariants :=
  ⟨contextInv_of_fresh ⟨rfl, rfl, rfl⟩, rfl⟩

end Sys2Proof.Machine

/-! Family other, runs: a list of operations executed one after another, and the run of the machine on the offers that spell it. -/

namespace Sys2Proof.Machine

/-- `Executes s is t`: the operations `is`, one after another from `s`, all go on and end in `t`. -/
inductive Executes : State → List Instr → State → Prop where
  | nil (s : State) : Executes s [] s
  | cons {i : Instr} {is : List Instr} {s t u : State} : exec i s = .next t → Executes t is u → Executes s (i :: is) u

theorem Executes.single {i : Instr} {s t : State} (h : exec i s = .next t) : Executes s [i] t :=
  .cons h (.nil t)

theorem Executes.append {is js : List Instr} {s t u : State} (h : Executes s is t) (h' : Executes t js u) :
    Executes s (is ++ js) u := by
  induction h with
  | nil => exact h'
  | cons hx _ ih => exact .cons hx (ih h')

/-- The machine, offered the words that spell the operations, executes them one a step (30_encoding R81, 00_scope R3). -/
theorem Executes.runSteps_eq {is : List Instr} {s t : State} (h : Executes s is t) (hport : ∀ i ∈ is, i.OnPort)
    (rest : List HostInput) :
    runSteps is.length { s with inputs := offersOf is ++ rest } = .next { t with inputs := rest } := by
  induction h with
  | nil s => rfl
  | @cons i is s t u hx _ ih =>
    obtain ⟨hi, his⟩ := List.forall_mem_cons.mp hport
    have hstep : step { s with inputs := offersOf (i :: is) ++ rest } = .next (t.withInputs (offersOf is ++ rest)) :=
      (step_of_decode_ok rfl (decode_offerOf_encode hi)).trans (exec_withInputs_next hx _)
    exact (runSteps_succ_of_next hstep is.length).trans (ih his)

end Sys2Proof.Machine

/-! Family other, checksum: the fold is linear and injective in the accumulator and in each byte, which gives the zero residue, the
bitwise form and the detection of one corrupted byte. -/

namespace Sys2Proof.Machine

/-! ### Linearity of the steps -/

theorem highNibble_xor (c d : Byte) : highNibble (c ^^^ d) = highNibble c ^^^ highNibble d :=
  BitVec.extractLsb'_xor

theorem lowNibble_xor (c d : Byte) : lowNibble (c ^^^ d) = lowNibble c ^^^ lowNibble d :=
  BitVec.extractLsb'_xor

/-- The nibble step is linear, for the table is (40_checksum R100, R101). -/
theorem crcNibStep_xor (c d : Byte) (n m : Nibble) :
    crcNibStep (c ^^^ d) (n ^^^ m) = crcNibStep c n ^^^ crcNibStep d m := by
  obtain ⟨-, htable, -⟩ := nibbleStepIsTableLookup
  have hindex : n ^^^ m ^^^ (highNibble c ^^^ highNibble d) = n ^^^ highNibble c ^^^ (m ^^^ highNibble d) := by ac_rfl
  rw [crcNibStep_eq, crcNibStep_eq, crcNibStep_eq, highNibble_xor, hindex, htable, BitVec.shiftLeft_xor_distrib]
  ac_rfl

/-- The byte step is linear (40_checksum R105). -/
theorem crcByteStep_xor (c d a b : Byte) : crcByteStep (c ^^^ d) (a ^^^ b) = crcByteStep c a ^^^ crcByteStep d b := by
  simp only [crcByteStep, highNibble_xor, lowNibble_xor, crcNibStep_xor]

/-- The byte step depends on the accumulator and the byte through their XOR alone. -/
theorem crcByteStep_eq_zeroStep (c b : Byte) : crcByteStep c b = crcByteStep (c ^^^ b) 0x00 := by
  have hsum := crcByteStep_xor c b b b
  rw [BitVec.xor_self, crcByteStep_self] at hsum
  exact (hsum.trans BitVec.xor_zero).symm

/-- Only 0 is folded to 0 by a zero byte. -/
theorem eq_zero_of_zeroStep_eq_zero : ∀ c : Byte, crcByteStep c 0x00 = 0x00 → c = 0x00 := by decide

/-- Two byte steps agree exactly where accumulator XOR byte does. -/
theorem crcByteStep_eq_iff {c d a b : Byte} : crcByteStep c a = crcByteStep d b ↔ c ^^^ a = d ^^^ b := by
  rw [crcByteStep_eq_zeroStep c, crcByteStep_eq_zeroStep d]
  refine ⟨fun h => BitVec.xor_eq_zero_iff.mp (eq_zero_of_zeroStep_eq_zero _ ?_), fun h => by rw [h]⟩
  have hsum := crcByteStep_xor (c ^^^ a) (d ^^^ b) 0x00 0x00
  rwa [h, BitVec.xor_self, BitVec.xor_self] at hsum

/-! ### The fold -/

/-- The fold is linear on sequences of equal length (40_checksum R110). -/
theorem crcFold_xor (s t : List Byte) (hlen : s.length = t.length) (c d : Byte) :
    crcFold (c ^^^ d) (List.zipWith (· ^^^ ·) s t) = crcFold c s ^^^ crcFold d t := by
  induction s generalizing t c d with
  | nil =>
    obtain rfl := List.length_eq_zero_iff.mp hlen.symm
    rfl
  | cons a s ih =>
    cases t with
    | nil => cases hlen
    | cons b t =>
      rw [List.zipWith_cons_cons, crcFold_cons, crcFold_cons, crcFold_cons, crcByteStep_xor]
      exact ih t (Nat.succ.inj hlen) _ _

/-- No two accumulators are folded to one. -/
theorem crcFold_injective (s : List Byte) : Function.Injective (crcFold · s) := by
  induction s with
  | nil => exact fun _ _ h => h
  | cons b s ih => exact fun c d h => (BitVec.xor_left_inj b).mp (crcByteStep_eq_iff.mp (ih h))

/-- Leading zeros leave the accumulator at 0 (40_checksum R110). -/
theorem crcFold_zeros (k : Nat) : crcFold 0x00 (List.replicate k 0x00) = 0x00 := by
  induction k with
  | zero => rfl
  | succ k ih => exact ih

/-- Two sequences that differ in one byte have different checksums (40_checksum R111). -/
theorem compute_set_injective {f : List Byte} {i : Nat} (hi : i < f.length) {a b : Byte}
    (h : compute (f.set i a) = compute (f.set i b)) : a = b := by
  rw [List.set_eq_take_cons_drop a hi, List.set_eq_take_cons_drop b hi, compute, compute, crcFold_append,
    crcFold_append] at h
  exact (BitVec.xor_right_inj _).mp (crcByteStep_eq_iff.mp (crcFold_injective _ h))

/-! ### The bitwise form -/

/-- Folding a zero byte is eight steps of the bitwise CRC, at each of the 256 accumulators (40_checksum R109). -/
theorem zeroStep_eq_crcBits : ∀ c : Byte,
    crcByteStep c 0x00 = crcBit (crcBit (crcBit (crcBit (crcBit (crcBit (crcBit (crcBit c))))))) := by decide

/-! ### CRC.BYTE of each byte -/

/-- CRC.BYTE of each byte of a sequence folds it into the accumulator (40_checksum R105). -/
theorem executes_crcBytes (p : List Byte) {s : State} (hs : s.Running) :
    Executes s (p.map .crcByte) (s.setAcc (crcFold s.crcAcc p)) := by
  induction p generalizing s with
  | nil => exact .nil s
  | cons b p ih => exact .cons (exec_crcByte_of_running hs b) (ih (s := s.setAcc _) hs)

/-- The expansion of CRC.COMPUTE (30_encoding R80, 40_checksum R107). -/
theorem executes_crcCompute (p : List Byte) {s : State} (hs : s.Running) :
    Executes s (crcCompute p) (s.setAcc (compute p)) :=
  .cons (exec_crcInit_of_running hs) (executes_crcBytes p (s := s.setAcc 0x00) hs)

/-! ### The statements -/

/-- Settles O7: the offers of a beginning `p` of the sequence spell `crcCompute p`, and the others stay. -/
theorem crcComputeLeavesChecksum : Obligations.CrcComputeLeavesChecksum := by
  intro p q rest s hs
  have hport : ∀ i ∈ crcCompute p, i.OnPort := by
    simp only [crcCompute, List.forall_mem_cons, List.forall_mem_map]
    exact ⟨⟨rfl, nofun⟩, fun _ _ => ⟨rfl, nofun⟩⟩
  have hoffers : offersOf (crcCompute (p ++ q)) ++ rest = offersOf (crcCompute p) ++ (offersOf (q.map .crcByte) ++ rest) := by
    simp [offersOf, crcCompute]
  have hlen : 1 + p.length = (crcCompute p).length := by simp [crcCompute, Nat.add_comm]
  rw [hoffers, hlen]
  exact ⟨_, (executes_crcCompute p hs).runSteps_eq hport _, rfl, rfl⟩

/-- Settles O8: the checksum byte is folded into an accumulator equal to it. -/
theorem zeroResidue : Obligations.ZeroResidue := by
  intro m
  rw [compute, crcFold_append]
  exact crcByteStep_self _

/-- Settles O9: `crcFold_zeros` and `crcFold_xor`, from the accumulator 0. -/
theorem checksumIsLinear : Obligations.ChecksumIsLinear := by
  refine ⟨fun k s => ?_, fun s t hlen => crcFold_xor s t hlen 0x00 0x00⟩
  rw [compute, crcFold_append, crcFold_zeros, compute]

/-- Settles O10: byte by byte, with the byte moved into the accumulator (`crcByteStep_eq_zeroStep`). -/
theorem tableCrcEqualsBitwiseCrc : Obligations.TableCrcEqualsBitwiseCrc := by
  intro s
  refine congrArg (fun stepOf => s.foldl stepOf 0x00) (funext₂ fun c b => ?_)
  rw [crcByteStep_eq_zeroStep, zeroStep_eq_crcBits]

/-- Settles O11: stage 2 of FV.PARSE; one corrupted byte makes the checksum differ from that of the frame, which is zero. -/
theorem singleByteCorruptionIsBadChecksum : Obligations.SingleByteCorruptionIsBadChecksum := by
  refine ⟨fun f hlen hcrc => parse_of_badChecksum (Nat.not_lt.mpr hlen) hcrc, fun f i b hlen hcrc hi hne => ?_⟩
  refine parse_of_badChecksum (by rw [List.length_set]; exact Nat.not_lt.mpr hlen) fun hzero => hne ?_
  have hsame : compute (f.set i f[i]) = compute (f.set i b) := by rw [List.set_getElem_self, hcrc, hzero]
  rw [List.getElem?_eq_getElem hi, compute_set_injective hi hsame]

end Sys2Proof.Machine

/-! Family other, encoder: the stuffed bytes of a frame, what occurs in them, and what ENC.FRAME places on ENC_OUT. -/

namespace Sys2Proof.Machine

/-! ### Stuffed bytes -/

/-- A delimiter or an escape is stuffed as an escape and the transformed byte (30_encoding R61). -/
theorem stuff_of_special {b : Byte} (h : b = 0x7E ∨ b = 0x7D) : stuff b = [0x7D, b ^^^ 0x20] := if_pos h

/-- Every other byte stands for itself (41_encoder R123). -/
theorem stuff_of_not_special {b : Byte} (h : ¬(b = 0x7E ∨ b = 0x7D)) : stuff b = [b] := if_neg h

@[simp] theorem wireBody_nil : wireBody [] = [] := rfl

@[simp] theorem wireBody_cons (b : Byte) (x : List Byte) : wireBody (b :: x) = stuff b ++ wireBody x := rfl

/-- No stuffed byte holds a delimiter (41_encoder R125). -/
theorem delimiter_not_mem_stuff (b : Byte) : (0x7E : Byte) ∉ stuff b := by
  by_cases h : b = 0x7E ∨ b = 0x7D
  · rw [stuff_of_special h]
    rcases h with rfl | rfl <;> decide
  · rw [stuff_of_not_special h, List.mem_singleton]
    exact fun he => h (.inl he.symm)

/-- No body of a frame holds a delimiter (41_encoder R125). -/
theorem delimiter_not_mem_wireBody (x : List Byte) : (0x7E : Byte) ∉ wireBody x := by
  intro h
  obtain ⟨b, -, hb⟩ := List.mem_flatMap.mp h
  exact delimiter_not_mem_stuff b hb

/-- Stuffing adds a byte for each delimiter and each escape (41_encoder R126). -/
theorem wireBody_length (x : List Byte) :
    (wireBody x).length = x.length + x.countP (fun b => b == 0x7E || b == 0x7D) := by
  induction x with
  | nil => rfl
  | cons b x ih =>
    rw [wireBody_cons, List.length_append, ih]
    by_cases h : b = 0x7E ∨ b = 0x7D
    · rw [stuff_of_special h, List.countP_cons_of_pos (by simpa using h)]
      simp only [List.length_cons, List.length_nil]
      omega
    · rw [stuff_of_not_special h, List.countP_cons_of_neg (by simpa using h)]
      simp only [List.length_cons, List.length_nil]
      omega

/-- Every escape of a wire sequence is followed by a transformed delimiter or escape. -/
def EscapesPaired (w : List Byte) : Prop :=
  ∀ k : Nat, w[k]? = some 0x7D → w[k + 1]? = some 0x5E ∨ w[k + 1]? = some 0x5D

/-- A byte that is no escape may stand before a wire sequence. -/
theorem EscapesPaired.cons {w : List Byte} (h : EscapesPaired w) {b : Byte} (hb : b ≠ 0x7D) : EscapesPaired (b :: w)
  | 0, hk => absurd (Option.some.inj hk) hb
  | k + 1, hk => h k hk

/-- A stuffed byte may stand before a wire sequence. -/
theorem EscapesPaired.stuff_append {w : List Byte} (h : EscapesPaired w) (b : Byte) : EscapesPaired (stuff b ++ w) := by
  by_cases hb : b = 0x7E ∨ b = 0x7D
  · have hvalue : b ^^^ 0x20 = 0x5E ∨ b ^^^ 0x20 = 0x5D := by rcases hb with rfl | rfl <;> decide
    have hne : b ^^^ 0x20 ≠ 0x7D := by rcases hb with rfl | rfl <;> decide
    rw [stuff_of_special hb]
    intro k hk
    cases k with
    | zero => exact hvalue.imp (congrArg some) (congrArg some)
    | succ k => exact h.cons hne k hk
  · rw [stuff_of_not_special hb]
    exact h.cons fun he => hb (.inr he)

/-- Every escape of an encoded frame is followed by a transformed delimiter or escape (41_encoder R125). -/
theorem escapesPaired_wireEncode (x : List Byte) : EscapesPaired (wireEncode x) := by
  have hclose : EscapesPaired [Config.frameDelimiter] := by
    have hempty : EscapesPaired [] := fun _ hk => by simp at hk
    exact hempty.cons (by decide)
  refine EscapesPaired.cons ?_ (by decide)
  induction x with
  | nil => exact hclose
  | cons b x ih =>
    rw [wireBody_cons, List.append_assoc]
    exact ih.stuff_append b

/-! ### ENC.FRAME -/

/-- ENC.DATA of each byte places the stuffed bytes on ENC_OUT, byte by byte (41_encoder R123). -/
theorem executes_encData (x : List Byte) {s : State} (hs : s.Running) :
    Executes s (x.map .encData) { s with events := s.events ++ x.map fun b => .encOut (stuff b) } := by
  induction x generalizing s with
  | nil => simpa using Executes.nil s
  | cons b x ih =>
    refine .cons (exec_encData_of_running hs b) ?_
    have hrest := ih (s := s.out (.encOut (stuff b))) hs
    simpa [State.out] using hrest

/-- The expansion of ENC.FRAME (30_encoding R80, 41_encoder R124). -/
theorem executes_encFrame (x : List Byte) {s : State} (hs : s.Running) :
    Executes s (encFrame x) { s with
      events := s.events ++ [.encOut [0x7E]] ++ (x.map fun b => .encOut (stuff b)) ++ [.encOut [0x7E]] } := by
  have hbody := executes_encData x (s := s.out (.encOut [0x7E])) hs
  have hclose := Executes.single (exec_encDelim_of_running
    (s := { s with events := s.events ++ [.encOut [0x7E]] ++ x.map fun b => .encOut (stuff b) }) hs)
  exact .cons (exec_encDelim_of_running hs) (hbody.append hclose)

@[simp] theorem encOutOf_map_stuff (x : List Byte) : encOutOf (x.map fun b => .encOut (stuff b)) = wireBody x := by
  induction x with
  | nil => rfl
  | cons b x ih => rw [List.map_cons, encOutOf, ih, wireBody_cons]

@[simp] theorem dfOutOf_map_encOut (g : Byte → List Byte) (x : List Byte) : dfOutOf (x.map fun b => .encOut (g b)) = [] := by
  induction x with
  | nil => rfl
  | cons b x ih => exact ih

@[simp] theorem resOutOf_map_encOut (g : Byte → List Byte) (x : List Byte) : resOutOf (x.map fun b => .encOut (g b)) = [] := by
  induction x with
  | nil => rfl
  | cons b x ih => exact ih

/-! ### The statements -/

/-- Settles O15: the loop appends `stuff` of each byte; the run is `executes_encFrame`. -/
theorem encFrameEmitsEncode : Obligations.EncFrameEmitsEncode := by
  refine ⟨fun x => ?_, fun x rest s hs => ?_⟩
  · have hloop : x.foldl (fun w b => w ++ stuff b) [0x7E] = [0x7E] ++ wireBody x := by
      rw [List.foldl_append_eq_append, wireBody, List.flatMap_def]
    exact (congrArg (· ++ [0x7E]) hloop).symm
  · have hport : ∀ i ∈ encFrame x, i.OnPort := by
      simp only [encFrame, List.forall_mem_cons, List.forall_mem_append, List.forall_mem_map]
      exact ⟨⟨rfl, nofun⟩, fun _ _ => ⟨rfl, nofun⟩, ⟨rfl, nofun⟩, nofun⟩
    have hlen : x.length + 2 = (encFrame x).length := by simp [encFrame]
    rw [hlen]
    refine ⟨_, (executes_encFrame x hs).runSteps_eq hport rest, rfl, ?_, ?_, ?_⟩
    · simp [State.encOut, encOutOf, wireEncode]
    · simp [State.dfOut, dfOutOf]
    · simp [State.resOut, resOutOf]

/-- Settles O16: the body holds no delimiter, its escapes are paired, and its length is counted byte by byte. -/
theorem encodeGuarantees : Obligations.EncodeGuarantees := by
  intro x
  refine ⟨?_, rfl, List.getLast?_concat (l := Config.frameDelimiter :: wireBody x), escapesPaired_wireEncode x, ?_⟩
  · have hbody : (wireBody x).count 0x7E = 0 := List.count_eq_zero.mpr (delimiter_not_mem_wireBody x)
    rw [wireEncode, List.count_cons_self, List.count_append, hbody]
    rfl
  · simp only [wireEncode, List.length_cons, List.length_append, List.length_nil, wireBody_length]

end Sys2Proof.Machine

/-! Family other, frames: which frames FV accepts and with which record, what FV does not read, and that FV runs the decoders. -/

namespace Sys2Proof.Machine

/-! ### Accepted frames -/

/-- FV's result on a frame that passes the stages before dispatch is OK exactly where the decoder that its profile selects decodes the
payload (43_frame_parser R177 to R179). -/
theorem parse_ok_iff {f : List Byte} {fr : Frame} :
    parse f = some (.ok fr) ↔
      ¬f.length < 8 ∧ compute f = 0x00 ∧ ¬((f.getD 1 0).getLsbD 2 = true ∧ (f.getD 1 0).getLsbD 1 = true) ∧
      ∃ d payload, decoderOf (f.getD 5 0) = some d ∧ runDecoder d (payloadRegion f) = some (.ok payload) ∧
        fr = ⟨f.getD 0 0, (f.getD 1 0).getLsbD 0, (f.getD 1 0).getLsbD 1, (f.getD 1 0).getLsbD 2, f.getD 5 0, payload⟩ := by
  constructor
  · intro h
    rcases parse_cases f with h' | h' | h' | h' | ⟨hlen, hcrc, hflags, d, r, hd, hr, h'⟩ <;> rw [h'] at h
    case inr.inr.inr.inr =>
      cases r with
      | err => cases h
      | ok payload => cases h; exact ⟨hlen, hcrc, hflags, d, payload, hd, hr, rfl⟩
    all_goals cases h
  · rintro ⟨hlen, hcrc, hflags, d, payload, hd, hr, rfl⟩
    exact parse_of_decoder hlen (not_not.mpr hcrc) hflags hd hr

/-- The profile bytes with a decoder (30_encoding R66). -/
theorem decoderOf_eq_some_iff {key : Byte} {d : PayloadDecoder} :
    decoderOf key = some d ↔ (key = 1 ∧ d = .lc) ∨ (key = 2 ∧ d = .rd) ∨ (key = 3 ∧ d = .gs) := by
  unfold decoderOf
  split_ifs with hlc hrd hgs <;> simp_all [eq_comm (a := d)]

/-- What PD.LC decodes a payload region to has LinkControl's tag, and the data fill the region (44_payload_decode R201, R203). -/
theorem decodeLc_payloadRegion_ok_iff {f : List Byte} {payload : Payload} :
    decodeLc (payloadRegion f) = some (.ok payload) ↔ 2 ≤ f.length - 8 ∧
      payload = .linkControl (f.getD 8 0) (lcClass (f.getD 8 0)) ((f.drop 9).dropLast) := by
  by_cases hp : f.length - 8 < 2
  · rw [decodeLc_of_short (by rwa [payloadRegion_length])]
    simp [Nat.not_le.mpr hp]
  · rw [decodeLc_payloadRegion hp]
    simp [Nat.not_lt.mp hp, eq_comm (a := payload)]

/-- What PD.GS decodes a payload region to has GenericService's tag, and the data fill the region (44_payload_decode R206). -/
theorem decodeGs_payloadRegion_ok_iff {f : List Byte} {payload : Payload} :
    decodeGs (payloadRegion f) = some (.ok payload) ↔ 9 ≤ f.length - 8 ∧
      payload = .genericService (le16 (f.getD 8 0) (f.getD 9 0)) (le16 (f.getD 10 0) (f.getD 11 0)) (f.getD 12 0)
        (gsClass (f.getD 12 0)) (f.getD 13 0) (le16 (f.getD 14 0) (f.getD 15 0)) ((f.drop 16).dropLast) := by
  by_cases hp : f.length - 8 < 9
  · rw [decodeGs_of_short (by rwa [payloadRegion_length])]
    simp [Nat.not_le.mpr hp]
  · rw [decodeGs_payloadRegion hp]
    simp [Nat.not_lt.mp hp, eq_comm (a := payload)]

/-- The least payload that a decoder decodes (44_payload_decode R201, R205, R206). -/
def leastPayload : PayloadDecoder → Nat
  | .lc => 2
  | .rd => 0
  | .gs => 9

/-- A decoder decodes a payload region exactly from its least payload on. -/
theorem exists_runDecoder_ok_iff (d : PayloadDecoder) (f : List Byte) :
    (∃ payload, runDecoder d (payloadRegion f) = some (.ok payload)) ↔ leastPayload d ≤ f.length - 8 := by
  cases d with
  | lc => exact (exists_congr fun _ => decodeLc_payloadRegion_ok_iff).trans (by simp [leastPayload])
  | rd => exact iff_of_true ⟨_, rfl⟩ (Nat.zero_le _)
  | gs => exact (exists_congr fun _ => decodeGs_payloadRegion_ok_iff).trans (by simp [leastPayload])

/-- The profile bytes with a decoder that decodes the payload region, by the frame's length (43_frame_parser R183). -/
theorem exists_decoder_ok_iff {f : List Byte} (hlen : 8 ≤ f.length) :
    (∃ d payload, decoderOf (f.getD 5 0) = some d ∧ runDecoder d (payloadRegion f) = some (.ok payload)) ↔
      (f.getD 5 0 = 1 ∧ 10 ≤ f.length) ∨ f.getD 5 0 = 2 ∨ (f.getD 5 0 = 3 ∧ 17 ≤ f.length) := by
  have hlc : 2 ≤ f.length - 8 ↔ 10 ≤ f.length := by omega
  have hgs : 9 ≤ f.length - 8 ↔ 17 ≤ f.length := by omega
  simp only [exists_and_left, exists_runDecoder_ok_iff, decoderOf_eq_some_iff]
  simp [or_and_right, exists_or, and_assoc, leastPayload, hlc, hgs]

/-- Settles O31: `parse_ok_iff`, where the selected decoder decodes the payload region from its least payload on, to its own tag. -/
theorem acceptedExactlyWhenWellFormed : Obligations.AcceptedExactlyWhenWellFormed := by
  refine ⟨fun f => ⟨?_, ?_⟩, fun f fr h => ?_⟩
  · rintro ⟨fr, h⟩
    obtain ⟨hlen, hcrc, hflags, d, payload, hd, hr, -⟩ := parse_ok_iff.mp h
    exact ⟨Nat.not_lt.mp hlen, hcrc, mt And.symm hflags, (exists_decoder_ok_iff (Nat.not_lt.mp hlen)).mp ⟨d, payload, hd, hr⟩⟩
  · rintro ⟨hlen, hcrc, hflags, hprofile⟩
    obtain ⟨d, payload, hd, hr⟩ := (exists_decoder_ok_iff hlen).mpr hprofile
    exact ⟨_, parse_ok_iff.mpr ⟨Nat.not_lt.mpr hlen, hcrc, mt And.symm hflags, d, payload, hd, hr, rfl⟩⟩
  · obtain ⟨-, -, hflags, d, payload, hd, hr, rfl⟩ := parse_ok_iff.mp h
    refine ⟨mt And.symm hflags, ?_⟩
    rcases decoderOf_eq_some_iff.mp hd with ⟨hkey, rfl⟩ | ⟨hkey, rfl⟩ | ⟨hkey, rfl⟩
    · obtain ⟨-, rfl⟩ := decodeLc_payloadRegion_ok_iff.mp hr
      exact .inl ⟨hkey, _, _, _, rfl, by simp [Nat.sub_sub]⟩
    · cases hr
      exact .inr (.inl ⟨hkey, _, rfl, payloadRegion_length f⟩)
    · obtain ⟨-, rfl⟩ := decodeGs_payloadRegion_ok_iff.mp hr
      exact .inr (.inr ⟨hkey, _, _, _, _, _, _, _, rfl, by simp [Nat.sub_sub]⟩)

/-! ### What FV does not read -/

/-- The payload region is given by the bytes from offset 7 to the checksum byte (43_frame_parser R176). -/
theorem payloadRegion_congr {f g : List Byte} (hlen : g.length = f.length)
    (h : ∀ i, 7 ≤ i → i < f.length - 1 → g[i]? = f[i]?) : payloadRegion g = payloadRegion f := by
  have hlen' : (payloadRegion g).length = (payloadRegion f).length := by
    rw [payloadRegion_length, payloadRegion_length, hlen]
  refine List.ext_getElem hlen' fun i hg hf => ?_
  have hi : 7 + i < f.length - 1 := by rw [payloadRegion_length] at hf; omega
  have hbyte := h (7 + i) (Nat.le_add_right 7 i) hi
  rw [List.getElem?_eq_getElem (by omega), List.getElem?_eq_getElem (by omega), Option.some.injEq] at hbyte
  simpa [payloadRegion_eq] using hbyte

/-- Settles O32: FV reads the flag bits, the profile and the payload region, in which the frames agree, and copies the version. -/
theorem reservedFieldsNeverReject : Obligations.ReservedFieldsNeverReject := by
  intro f g fr h hlen hcrc hflag hprofile hpayload
  obtain ⟨hshort, -, hflags, d, payload, hd, hr, rfl⟩ := parse_ok_iff.mp h
  have hread := hflag 0 (by decide)
  have hmaster := hflag 1 (by decide)
  have hnotification := hflag 2 (by decide)
  refine parse_ok_iff.mpr ⟨by rwa [hlen], hcrc, by rwa [hmaster, hnotification], d, payload, by rwa [hprofile], ?_, ?_⟩
  · rwa [payloadRegion_congr hlen hpayload]
  · rw [hread, hmaster, hnotification, hprofile]

/-! ### The dispatch to the decoders -/

/-- Settles O59: no port word is a PD operation, FV's last stages run the selected decoder on the payload region, and the PD operation
runs the same decoder. -/
theorem decodersAreDispatchedByFv : Obligations.DecodersAreDispatchedByFv := by
  refine ⟨fun w i h => (onPort_of_decode h).2, fun f hlen hcrc hflags => ?_, fun d p s hs => ?_⟩
  · have hlen' := Nat.not_lt.mpr hlen
    have hcrc' := not_not.mpr hcrc
    have hflags' := mt And.symm hflags
    refine ⟨parse_of_unsupportedProfile hlen' hcrc' hflags', fun d hd => ?_⟩
    obtain ⟨r, hr⟩ := exists_runDecoder_eq_some d (payloadRegion f)
    refine ⟨r, payloadRegion_eq f ▸ hr, ?_⟩
    rw [parse_of_decoder hlen' hcrc' hflags' hd hr]
    cases r <;> rfl
  · obtain ⟨r, hr⟩ := exists_runDecoder_eq_some d p
    exact ⟨r, hr, exec_operation_of_running hs hr⟩

/-- Settles O36: each PD operation hands back its decoder's answer, by the length check of the decoder. -/
theorem decodersRunAloneComplete : Obligations.DecodersRunAloneComplete := by
  refine fun p s hs => ⟨exec_operation_of_running hs (d := .lc) ?_, exec_operation_of_running hs (d := .rd) rfl,
    exec_operation_of_running hs (d := .gs) ?_⟩
  · split_ifs with hp
    · exact decodeLc_of_short hp
    · exact decodeLc_of_le (Nat.not_lt.mp hp)
  · split_ifs with hp
    · exact decodeGs_of_short hp
    · exact decodeGs_of_le (Nat.not_lt.mp hp)

/-! ### The numbers of codes and kinds -/

/-- Settles O38: the numbers of R220 and R74, code by code and kind by kind. -/
theorem resultCodesAndEventKinds : Obligations.ResultCodesAndEventKinds :=
  fun _ _ => ⟨rfl, rfl, rfl, rfl, rfl, rfl, rfl, rfl, rfl, rfl⟩

end Sys2Proof.Machine

/-! Family other, de-framer: DF.LIT at every capacity, the transition table, and any wire stream. -/

namespace Sys2Proof.Machine

/-! ### DF.LIT -/

/-- A buffer within its capacity is full exactly at it (20_memory R41). -/
theorem fullAt_eq_true_iff {cap : Option Nat} {n : Nat} (h : ∀ c, cap = some c → n ≤ c) :
    fullAt cap n = true ↔ cap = some n := by
  cases cap with
  | none => simp [fullAt]
  | some c =>
    have hle := h c rfl
    simp only [fullAt, decide_eq_true_eq, Option.some.injEq]
    omega

/-- DF.LIT's writes and its Continue (42_deframer R145). -/
theorem acceptLiteral_dfPut (s : State) (b : Byte) :
    (s.acceptLiteral b).dfPut .cont =
      .next { s with dfEsc := false,
                     dfBuf := if s.dfSync then s.dfBuf ++ [if s.dfEsc then b ^^^ 0x20 else b] else s.dfBuf,
                     events := s.events ++ [.dfOut .cont] } := by
  rw [State.acceptLiteral_eq, State.dfPut_cont]
  rfl

/-- Settles O20: a buffer within its capacity is full exactly at it; otherwise DF.LIT is `acceptLiteral_dfPut`. -/
theorem dfLitUnescapesAndAppends : Obligations.DfLitUnescapesAndAppends := by
  refine ⟨fun cap b s _ hs hcap => ?_, fun b hwf => decode_dfIn_literalWord hwf, fun _ _ => rfl, fun b s _ hs hroom => ?_⟩
  · have hfull : (s.dfSync && fullAt cap s.dfBuf.length) = true ↔ s.dfSync = true ∧ cap = some s.dfBuf.length := by
      rw [Bool.and_eq_true, fullAt_eq_true_iff hcap]
    rw [dfLitAt, State.whenDfRunning_of_running hs, acceptLiteral_dfPut]
    simp only [hfull]
    rfl
  · rw [exec_dfLit_of_room hs b hroom, acceptLiteral_dfPut]

/-- Settles O21: at capacity DF.LIT only raises the fault, with which no operation goes on; with no capacity it is never full. -/
theorem dfLitOverflowSticks : Obligations.DfLitOverflowSticks := by
  refine ⟨fun n b s hs hsync hlen => ⟨s.raiseFault .bufferOverflow, ?_, ?_, fun i u h => ?_⟩, fun b s t h => ?_⟩
  · rw [dfLitAt, State.whenDfRunning_of_running hs, if_pos (by simp [hsync, hlen, fullAt])]
  · rw [State.raiseFault, hs.1.1]
    rfl
  · exact FaultSet.insert_ne_empty s.fault .bufferOverflow (running_of_exec_next h).1
  · obtain ⟨-, hput⟩ := State.whenDfRunning_next_iff.mp h
    rw [if_neg (by simp [fullAt]), acceptLiteral_dfPut, Host.Outcome.next.injEq] at hput
    rw [← hput]

/-! ### Feeding one byte -/

/-- What fits leaves room for less. -/
theorem FitsBuffer.mono {m n : Nat} (h : FitsBuffer n) (hmn : m ≤ n) : FitsBuffer m :=
  fun c hc => hmn.trans (h c hc)

theorem dfFeed_of_wf {b : Byte} (h : (Instr.dfLit b).wf = true) : dfFeed b = .dfLit b := by
  obtain ⟨hdelim, hesc⟩ := Instr.wf_dfLit_iff.mp h
  simp only [dfFeed, classify, if_neg hdelim, if_neg hesc]

/-- The operation that feeds a byte, by the byte's class (30_encoding R60, R80). -/
theorem dfFeed_cases (b : Byte) :
    (classify b = .delim ∧ dfFeed b = .dfDelim) ∨ (classify b = .esc ∧ dfFeed b = .dfEsc) ∨
    (classify b = .lit ∧ dfFeed b = .dfLit b ∧ (Instr.dfLit b).wf = true) := by
  by_cases hdelim : b = 0x7E
  · subst hdelim; exact .inl ⟨rfl, rfl⟩
  by_cases hesc : b = 0x7D
  · subst hesc; exact .inr (.inl ⟨rfl, rfl⟩)
  have hwf := Instr.wf_dfLit_iff.mpr ⟨hdelim, hesc⟩
  exact .inr (.inr ⟨(if_neg hdelim).trans (if_neg hesc), dfFeed_of_wf hwf, hwf⟩)

/-- Bytes are fed by port operations of the de-framer (30_encoding R80). -/
theorem dfFeed_onPort (b : Byte) : (dfFeed b).OnPort := by
  rcases dfFeed_cases b with ⟨-, h⟩ | ⟨-, h⟩ | ⟨-, h, hwf⟩ <;> rw [h]
  · exact ⟨rfl, nofun⟩
  · exact ⟨rfl, nofun⟩
  · exact ⟨hwf, nofun⟩

theorem dfStream_onPort (w : List Byte) : ∀ i ∈ dfStream w, i.OnPort :=
  List.forall_mem_map.mpr fun b _ => dfFeed_onPort b

/-- With room for one byte every byte makes a move. -/
theorem exists_dfMove_feed (b : Byte) {s : State} (hroom : FitsBuffer (s.dfBuf.length + 1)) :
    ∃ u e, DfMove s (dfFeed b) u e := by
  rcases dfFeed_cases b with ⟨-, h⟩ | ⟨-, h⟩ | ⟨-, h, -⟩ <;> rw [h]
  · by_cases hbuf : s.dfBuf = []
    · exact ⟨_, _, .synchronize hbuf⟩
    · exact ⟨_, _, .emit hbuf⟩
  · cases hesc : s.dfEsc with
    | false => exact ⟨_, _, .pend hesc⟩
    | true => exact ⟨_, _, .resync hesc⟩
  · exact ⟨_, _, .accept b fun _ => hroom⟩

/-- The moves are those of the transition table (42_deframer R151). -/
theorem DfMove.dfTable_eq {b : Byte} {s u : State} {e : DfEvent} (h : DfMove s (dfFeed b) u e)
    (hinv : s.dfBuf ≠ [] → s.dfSync = true) :
    dfTable s.dfEsc s.dfSync s.dfBuf b = some (u.dfEsc, u.dfSync, u.dfBuf, e) := by
  rcases dfFeed_cases b with ⟨hc, hf⟩ | ⟨hc, hf⟩ | ⟨hc, hf, -⟩ <;> rw [hf] at h
  · cases h with
    | synchronize hbuf => cases hesc : s.dfEsc <;> cases hsync : s.dfSync <;> simp [dfTable, hc, hesc, hbuf]
    | emit hbuf =>
      obtain ⟨x, xs, hx⟩ := List.exists_cons_of_ne_nil hbuf
      cases hesc : s.dfEsc <;> simp [dfTable, hc, hinv hbuf, hx]
  · cases h with
    | pend hesc =>
      cases hbuf : s.dfBuf with
      | nil => cases hsync : s.dfSync <;> simp [dfTable, hc, hesc, hsync, hbuf]
      | cons x xs => simp [dfTable, hc, hesc, hinv (by simp [hbuf]), hbuf]
    | resync hesc =>
      cases hbuf : s.dfBuf with
      | nil => cases hsync : s.dfSync <;> simp [dfTable, hc, hesc]
      | cons x xs => simp [dfTable, hc, hesc, hinv (by simp [hbuf])]
  · cases h with
    | accept b _ =>
      rw [State.acceptLiteral_eq, State.literalValue]
      cases hbuf : s.dfBuf with
      | nil => cases hesc : s.dfEsc <;> cases hsync : s.dfSync <;> simp [dfTable, hc, unescape_eq_xor]
      | cons x xs => cases hesc : s.dfEsc <;> simp [dfTable, hc, hinv (by simp [hbuf]), unescape_eq_xor]

/-- A byte makes the buffer longer by at most one byte (42_deframer R145). -/
theorem DfMove.dfBuf_length_le {i : Instr} {s u : State} {e : DfEvent} (h : DfMove s i u e) :
    u.dfBuf.length ≤ s.dfBuf.length + 1 := by
  cases h with
  | accept b _ =>
    rw [State.acceptLiteral_eq]
    by_cases hsync : s.dfSync = true <;> simp [hsync]
  | pend _ => exact Nat.le_succ _
  | _ => exact Nat.zero_le _

/-- Feeding a byte with room for it makes the byte's move and adds its one event with the report of it. -/
theorem exists_exec_dfFeed_eq_next (b : Byte) {s : State} (hs : s.DfRunning) (hroom : FitsBuffer (s.dfBuf.length + 1)) :
    ∃ u e es, DfMove s (dfFeed b) u e ∧ exec (dfFeed b) s = .next { u with events := s.events ++ es } ∧
      dfOutOf es = [e] ∧ reportedAtOnce es = true := by
  obtain ⟨u, e, hm⟩ := exists_dfMove_feed b hroom
  obtain ⟨t, ht⟩ := exists_dfPut_eq_next u e
  obtain ⟨es, hev, hdf, -, hrep⟩ := State.dfPut_next_events ht (by rintro f rfl; exact hm.emit_ne_nil)
  have hkeep : u.events = s.events := by rw [hm.frame]
  rw [hkeep] at hev
  refine ⟨u, e, es, hm, ?_, hdf, hrep⟩
  rw [hm.exec_eq hs, ht, State.dfPut_frame ht, hev]

/-- Settles O24: the byte's move is the table's. -/
theorem dfRefinesTransitionTable : Obligations.DfRefinesTransitionTable := by
  intro s b hs hinv hroom
  obtain ⟨u, e, es, hm, hx, hdf, -⟩ := exists_exec_dfFeed_eq_next b hs hroom
  refine ⟨_, e, hx, hm.dfTable_eq hinv, ?_, ?_⟩
  · rw [State.dfOut, dfOutOf_append, hdf, State.dfOut]
  · rw [hm.frame]

/-! ### Any wire stream -/

/-- Any wire stream with room in the buffer is consumed byte by byte: DF runs on, every byte has its event and every event its report. -/
theorem exists_executes_dfStream (w : List Byte) {s : State} (hs : s.DfRunning)
    (hroom : FitsBuffer (s.dfBuf.length + w.length)) :
    ∃ t es, Executes s (dfStream w) t ∧ t.DfRunning ∧ t.crcAcc = s.crcAcc ∧ t.events = s.events ++ es ∧
      (dfOutOf es).length = w.length ∧ reportedAtOnce es = true := by
  induction w generalizing s with
  | nil => exact ⟨s, [], .nil s, hs, rfl, (List.append_nil _).symm, rfl, rfl⟩
  | cons b w ih =>
    rw [List.length_cons] at hroom
    obtain ⟨u, e, es, hm, hx, hdf, hrep⟩ := exists_exec_dfFeed_eq_next b hs (hroom.mono (by omega))
    have hlen := hm.dfBuf_length_le
    have hrun : ({ u with events := s.events ++ es } : State).DfRunning := by rw [hm.frame]; exact hs
    have hacc : u.crcAcc = s.crcAcc := by rw [hm.frame]
    obtain ⟨t, es', hw, ht, hacc', hev, hdf', hrep'⟩ := ih hrun (hroom.mono (by dsimp only; omega))
    refine ⟨t, es ++ es', .cons hx hw, ht, hacc'.trans hacc, by rw [hev, List.append_assoc], ?_, ?_⟩
    · simp [hdf, hdf', Nat.add_comm]
    · rw [reportedAtOnce_append hrep, hrep']

/-- Settles O26: `exists_executes_dfStream`, then DF.EOS, which renews and halts. -/
theorem everyStreamEndsWell : Obligations.EveryStreamEndsWell := by
  intro w rest s hs hroom
  obtain ⟨t, es, hw, ht, hacc, hev, hdf, hrep⟩ := exists_executes_dfStream w hs hroom
  have heos : Executes s (dfStreamEos w) t.renew.halt := hw.append (.single (exec_dfEos_next_iff.mpr ⟨ht, rfl⟩))
  have hport : ∀ i ∈ dfStreamEos w, i.OnPort :=
    List.forall_mem_append.mpr ⟨dfStream_onPort w, List.forall_mem_singleton.mpr ⟨rfl, nofun⟩⟩
  have hlen : w.length + 1 = (dfStreamEos w).length := by simp [dfStreamEos, dfStream]
  rw [hlen]
  exact ⟨_, es, heos.runSteps_eq hport rest, ⟨rfl, ht.1⟩, ⟨rfl, rfl, rfl⟩, rfl, hacc, hev, hdf, hrep⟩

end Sys2Proof.Machine

/-! Family other, streams: what the de-framer does with an encoded frame, with two that share a delimiter, and with escapes at
delimiters. -/

namespace Sys2Proof.Machine

/-! ### Bytes fed from one context to another -/

/-- A Decode Context (10_state R24). -/
structure DfContext where
  esc : Bool
  sync : Bool
  buf : List Byte

/-- The state with another context, and with more events. -/
def State.inContext (s : State) (c : DfContext) (es : List PortEvent) : State :=
  { s with dfEsc := c.esc, dfSync := c.sync, dfBuf := c.buf, events := s.events ++ es }

/-- `Feeds s c w es c'`: the bytes `w`, fed one after another in the context `c`, add the events `es` and lead to the context `c'`, and
nothing else of `s` changes. -/
def Feeds (s : State) (c : DfContext) (w : List Byte) (es : List PortEvent) (c' : DfContext) : Prop :=
  ∀ past, Executes (s.inContext c past) (dfStream w) (s.inContext c' (past ++ es))

theorem Feeds.append {s : State} {c c' c'' : DfContext} {w v : List Byte} {es es' : List PortEvent}
    (h : Feeds s c w es c') (h' : Feeds s c' v es' c'') : Feeds s c (w ++ v) (es ++ es') c'' := by
  intro past
  rw [dfStream, List.map_append, ← List.append_assoc]
  exact (h past).append (h' (past ++ es))

/-- A byte whose operation goes on in every history is fed. -/
theorem Feeds.of_exec {s : State} {c c' : DfContext} {b : Byte} {es : List PortEvent}
    (h : ∀ past, exec (dfFeed b) (s.inContext c past) = .next (s.inContext c' (past ++ es))) : Feeds s c [b] es c' :=
  fun past => .single (h past)

/-- The machine, offered bytes that lead from a fresh state back to one, but for DF.sync, feeds them one a step (30_encoding R81). -/
theorem Feeds.runSteps_eq {s : State} {w : List Byte} {es : List PortEvent} {sync : Bool}
    (h : Feeds s ⟨false, false, []⟩ w es ⟨false, sync, []⟩) (hfresh : FreshContext s) (rest : List HostInput) :
    runSteps w.length { s with inputs := offersOf (dfStream w) ++ rest } =
      .next { s with dfSync := sync, inputs := rest, events := s.events ++ es } := by
  have hrun := (h []).runSteps_eq (dfStream_onPort w) rest
  rw [dfStream, List.length_map, ← dfStream] at hrun
  cases s
  obtain ⟨rfl, rfl, rfl⟩ := hfresh
  simpa [State.inContext] using hrun

@[simp] theorem resOutOf_replicate_dfOut (n : Nat) (e : DfEvent) : resOutOf (List.replicate n (.dfOut e)) = [] := by
  induction n with
  | zero => rfl
  | succ n ih => exact ih

section Feeding

variable {s : State} (hs : s.DfRunning) (esc sync : Bool) (buf : List Byte)
include hs

/-- A delimiter on an empty buffer synchronises and keeps a pending escape (42_deframer R143). -/
theorem feeds_delim_of_empty : Feeds s ⟨esc, sync, []⟩ [0x7E] [.dfOut .cont] ⟨esc, true, []⟩ := by
  refine .of_exec fun past => (exec_dfDelim_of_empty (s := s.inContext ⟨esc, sync, []⟩ past) hs rfl).trans ?_
  simp [State.dfPut_cont, State.inContext, State.synchronize]

/-- A delimiter on a non-empty buffer emits it and renews the context (42_deframer R143). -/
theorem feeds_delim_of_nonempty {f : List Byte} (hf : f ≠ []) {r : ResEvent} (hr : parse f = some r) :
    Feeds s ⟨esc, sync, f⟩ [0x7E] [.dfOut (.emit f), .resOut r] ⟨false, false, []⟩ := by
  refine .of_exec fun past => (exec_dfDelim_of_nonempty (s := s.inContext ⟨esc, sync, f⟩ past) hs hf).trans
    ((State.dfPut_emit _ (f := f) hr).trans ?_)
  simp [State.inContext, State.renew]

/-- An escape with none pending is recorded (42_deframer R144). -/
theorem feeds_esc_of_not_pending : Feeds s ⟨false, sync, buf⟩ [0x7D] [.dfOut .cont] ⟨true, sync, buf⟩ := by
  refine .of_exec fun past => (exec_dfEsc_of_not_pending (s := s.inContext ⟨false, sync, buf⟩ past) hs rfl).trans ?_
  simp [State.dfPut_cont, State.inContext, State.setEsc]

/-- An escape with one pending is reported and renews the context (42_deframer R144). -/
theorem feeds_esc_of_pending :
    Feeds s ⟨true, sync, buf⟩ [0x7D] [.dfOut .resyncError, .resOut .framingError] ⟨false, false, []⟩ := by
  refine .of_exec fun past => (exec_dfEsc_of_pending (s := s.inContext ⟨true, sync, buf⟩ past) hs rfl).trans ?_
  simp [State.dfPut_resyncError, State.inContext, State.renew]

/-- A literal is un-escaped, and appended where DF is synchronised (42_deframer R145). -/
theorem feeds_lit {b : Byte} (hwf : (Instr.dfLit b).wf = true) (hroom : sync = true → FitsBuffer (buf.length + 1)) :
    Feeds s ⟨esc, sync, buf⟩ [b] [.dfOut .cont]
      ⟨false, sync, if sync then buf ++ [if esc then unescape b else b] else buf⟩ := by
  refine .of_exec fun past => ?_
  rw [dfFeed_of_wf hwf, exec_dfLit_of_room (s := s.inContext ⟨esc, sync, buf⟩ past) hs b hroom, acceptLiteral_dfPut,
    State.inContext, State.inContext, List.append_assoc]
  rfl

/-! ### A stuffed body -/

/-- The wire bytes of one data byte append it where DF is synchronised (41_encoder R123, 42_deframer R145). -/
theorem feeds_stuff (b : Byte) (hroom : sync = true → FitsBuffer (buf.length + 1)) :
    Feeds s ⟨false, sync, buf⟩ (stuff b) (List.replicate (stuff b).length (.dfOut .cont))
      ⟨false, sync, if sync then buf ++ [b] else buf⟩ := by
  by_cases hb : b = 0x7E ∨ b = 0x7D
  · have hwf : (Instr.dfLit (b ^^^ 0x20)).wf = true := by rcases hb with rfl | rfl <;> rfl
    have hlit := feeds_lit hs true sync buf hwf hroom
    rw [← unescape_eq_xor, unescape_unescape] at hlit
    rw [stuff_of_special hb]
    exact (feeds_esc_of_not_pending hs sync buf).append hlit
  · rw [stuff_of_not_special hb]
    exact feeds_lit hs false sync buf (Instr.wf_dfLit_iff.mpr (not_or.mp hb)) hroom

/-- The wire bytes of a frame append it where DF is synchronised, and are dropped elsewhere (42_deframer R145). -/
theorem feeds_wireBody (x : List Byte) (hroom : sync = true → FitsBuffer (buf.length + x.length)) :
    Feeds s ⟨false, sync, buf⟩ (wireBody x) (List.replicate (wireBody x).length (.dfOut .cont))
      ⟨false, sync, if sync then buf ++ x else buf⟩ := by
  induction x generalizing buf with
  | nil =>
    simp only [wireBody_nil, List.append_nil, ite_self, List.length_nil, List.replicate_zero]
    intro past
    rw [List.append_nil]
    exact .nil _
  | cons b x ih =>
    have hbyte := feeds_stuff hs sync buf b fun h => (hroom h).mono (by simp)
    have hrest := ih (if sync then buf ++ [b] else buf) fun h => (hroom h).mono (by simp [h]; omega)
    have hboth := hbyte.append hrest
    rw [List.replicate_append_replicate, ← List.length_append] at hboth
    cases sync <;> simpa using hboth

/-- A stuffed body and the closing delimiter emit the frame, with what the buffer held before it, and renew the context. -/
theorem feeds_frame (x : List Byte) (hroom : FitsBuffer (buf.length + x.length)) (hne : buf ++ x ≠ []) {r : ResEvent}
    (hr : parse (buf ++ x) = some r) :
    Feeds s ⟨false, true, buf⟩ (wireBody x ++ [0x7E])
      (List.replicate (wireBody x).length (.dfOut .cont) ++ [.dfOut (.emit (buf ++ x)), .resOut r]) ⟨false, false, []⟩ :=
  (feeds_wireBody hs true buf x fun _ => hroom).append (feeds_delim_of_nonempty hs false true hne hr)

/-! ### Frames from the fresh context -/

section Frame

variable {f : List Byte} (hroom : FitsBuffer f.length) (hne : f ≠ []) {r : ResEvent} (hr : parse f = some r)
include hroom hne hr

/-- A stuffed body and the closing delimiter, on an empty buffer, emit the frame. -/
theorem feeds_frame_of_empty :
    Feeds s ⟨false, true, []⟩ (wireBody f ++ [0x7E])
      (List.replicate (wireBody f).length (.dfOut .cont) ++ [.dfOut (.emit f), .resOut r]) ⟨false, false, []⟩ :=
  feeds_frame hs [] f (by rwa [List.length_nil, Nat.zero_add]) hne hr

/-- An encoded frame is emitted (42_deframer R153). -/
theorem feeds_wireEncode :
    Feeds s ⟨false, false, []⟩ (wireEncode f)
      (List.replicate ((wireBody f).length + 1) (.dfOut .cont) ++ [.dfOut (.emit f), .resOut r]) ⟨false, false, []⟩ :=
  (feeds_delim_of_empty hs false false).append (feeds_frame_of_empty hs hroom hne hr)

/-- An escape before the closing delimiter is dropped with the renewal (70_reset R256). -/
theorem feeds_danglingEscape :
    ∃ es, Feeds s ⟨false, false, []⟩ ([0x7E] ++ wireBody f ++ [0x7D, 0x7E]) es ⟨false, false, []⟩ ∧ resOutOf es = [r] := by
  have hopen := feeds_delim_of_empty hs false false
  have hbody := feeds_wireBody hs true [] f fun _ => by rwa [List.length_nil, Nat.zero_add]
  have hclose := (feeds_esc_of_not_pending hs true f).append (feeds_delim_of_nonempty hs true true hne hr)
  exact ⟨_, (hopen.append hbody).append hclose, by simp [resOutOf]⟩

/-- The bytes after an empty frame are a frame, for DF stays synchronised (70_reset R257). -/
theorem feeds_afterEmptyFrame :
    ∃ es, Feeds s ⟨false, false, []⟩ ([0x7E, 0x7E] ++ wireBody f ++ [0x7E]) es ⟨false, false, []⟩ ∧ resOutOf es = [r] := by
  have hopen := (feeds_delim_of_empty hs false false).append (feeds_delim_of_empty hs false true)
  rw [List.append_assoc]
  exact ⟨_, hopen.append (feeds_frame_of_empty hs hroom hne hr), by simp [resOutOf]⟩

end Frame

/-- An escape before the opening delimiter stays pending and transforms a literal first byte (70_reset R258). -/
theorem feeds_strayEscape {c : Byte} (x : List Byte) (hwf : (Instr.dfLit c).wf = true) (hroom : FitsBuffer (x.length + 1))
    {r : ResEvent} (hr : parse ((c ^^^ 0x20) :: x) = some r) :
    ∃ es, Feeds s ⟨false, false, []⟩ ([0x7D] ++ wireEncode (c :: x)) es ⟨false, false, []⟩ ∧ resOutOf es = [r] := by
  have hopen := (feeds_esc_of_not_pending hs false []).append (feeds_delim_of_empty hs true false)
  have hfirst := feeds_lit hs true true [] hwf fun _ => hroom.mono (by simp)
  have hframe := feeds_frame hs [unescape c] x (hroom.mono (by simp [Nat.add_comm])) (by simp) hr
  have hstuff : stuff c = [c] := stuff_of_not_special (not_or.mpr (Instr.wf_dfLit_iff.mp hwf))
  rw [wireEncode, wireBody_cons, hstuff]
  exact ⟨_, hopen.append (hfirst.append hframe), by simp [resOutOf]⟩

end Feeding

/-! ### The statements -/

/-- Settles O25: `feeds_wireEncode`; the closing delimiter is the one byte without a Continue. -/
theorem roundTripEmitsTheFrame : Obligations.RoundTripEmitsTheFrame := by
  intro x rest s hs hfresh hne hroom
  obtain ⟨r, hr⟩ := exists_parse_eq_some x
  have hlen : (wireEncode x).length - 1 = (wireBody x).length + 1 := by simp [wireEncode]
  refine ⟨r, hr, ((feeds_wireEncode hs hroom hne hr).runSteps_eq hfresh rest).trans ?_⟩
  rw [hlen, ← hfresh.2.1, List.append_assoc]

/-- Settles O27: the second escape finds the first one pending, and the literal is dropped. -/
theorem doubleEscapeRecovers : Obligations.DoubleEscapeRecovers := by
  intro b rest s hwf hs hfresh
  have hescapes := (feeds_esc_of_not_pending hs false []).append (feeds_esc_of_pending hs false [])
  have hrun := (hescapes.append (feeds_lit hs false false [] hwf nofun)).runSteps_eq hfresh rest
  rwa [← hfresh.2.1] at hrun

/-- Settles O28: the second body is fed to an unsynchronised de-framer, which drops it, and the last delimiter synchronises. -/
theorem sharedDelimiterLosesSecondFrame : Obligations.SharedDelimiterLosesSecondFrame := by
  intro x y rest s hs hfresh hne hroom
  obtain ⟨r, hr⟩ := exists_parse_eq_some x
  have hbodies := (feeds_wireEncode hs hroom hne hr).append (feeds_wireBody hs false [] y nofun)
  have hrun := (hbodies.append (feeds_delim_of_empty hs false false)).runSteps_eq hfresh rest
  exact ⟨_, r, hrun, hr, by simp [State.resOut, resOutOf], rfl⟩

/-- Settles O29: each of the three streams leads back to the fresh context with the one result of its frame. -/
theorem escapesAtDelimiters : Obligations.EscapesAtDelimiters := by
  intro w f rest s hs hfresh hne hroom hw
  obtain ⟨r, hr⟩ := exists_parse_eq_some f
  have hfeeds : ∃ es, Feeds s ⟨false, false, []⟩ w es ⟨false, false, []⟩ ∧ resOutOf es = [r] := by
    rcases hw with rfl | rfl | ⟨c, x, hwf, rfl, rfl⟩
    · exact feeds_danglingEscape hs hroom hne hr
    · exact feeds_afterEmptyFrame hs hroom hne hr
    · exact feeds_strayEscape hs x hwf hroom hr
  obtain ⟨es, hfeed, hres⟩ := hfeeds
  have hrun := hfeed.runSteps_eq hfresh rest
  rw [← hfresh.2.1] at hrun
  exact ⟨_, r, hrun, hr, by rw [State.resOut, resOutOf_append, hres, State.resOut], rfl⟩

end Sys2Proof.Machine
